-- ==== Sys2Proof/Word.lean ====
section
/-! DEFINITION. The bit-vector types of the model: bytes of frames and of the store, and the set of requester IDs as the
32-bit value in which bit n stands for ID n (chapter 10). -/

namespace Sys2Proof

/-- A byte of a frame, of a staging buffer or of a store page. -/
abbrev Byte := BitVec 8

/-- A requester ID as the part keeps it: 1..31, with 0 the LS416 itself (00_scope.md section 4). -/
abbrev ReqId := BitVec 5

/-- A set of requester IDs, bit n for ID n (chapter 10, opening). -/
abbrev ReqSet := BitVec 32

/-- A number of microseconds (00_scope.md section 5.1). -/
abbrev Micros := Nat

end Sys2Proof
end

