-- ==== Sys2Proof/Syntax.lean ====
section
/-! DEFINITION. The commands of the block: one constructor for each row of spec/opcode_table.json. A command that takes a
frame (R131) names the port alone; the request is the frame at the head of that port's inbound queue (log entry 5). -/

namespace Sys2Proof

/-- The two link ports (R124). -/
inductive PortId where
  | lp0 | lp1
  deriving DecidableEq, Repr

/-- The two store channels (R72). -/
inductive ChannelId where
  | sc0 | sc1
  deriving DecidableEq, Repr

/-- The status a store completion carries (R76). -/
inductive CompletionStatus where
  | ok | fail
  deriving DecidableEq, Repr

/-- Staging buffers 0..11 (R23), read slots 0..7 (R48), windows 0..23 (R1). -/
abbrev BufferId := Fin 12
abbrev SlotId := Fin 8
abbrev WindowId := Fin 24

/-- The commands, in the order of the table. -/
inductive Instr where
  /-- FRAME_ARRIVAL: the receiver of the port delimits a frame, these bytes (R128). -/
  | frameArrival (p : PortId) (frame : List Byte)
  /-- LINK_UP: the physical layer of the port reports link-up (R125). -/
  | linkUp (p : PortId)
  /-- LINK_DOWN: it reports link-down (R126). -/
  | linkDown (p : PortId)
  /-- TRANSMISSION_END: it reports the end of a transmission (R132). -/
  | transmissionEnd (p : PortId)
  /-- UNKNOWN_FRAME_KIND: the decoder takes a frame of no request kind (R7). -/
  | unknownFrameKind (p : PortId)
  /-- READ: the decoder takes a READ (R53). -/
  | read (p : PortId)
  /-- WRITE: the decoder takes a WRITE (R27). -/
  | write (p : PortId)
  /-- CLEAR: the decoder takes a CLEAR (R92). -/
  | clear (p : PortId)
  /-- COLLECT: the decoder takes a COLLECT (R60). -/
  | collect (p : PortId)
  /-- GRANT: the decoder takes a GRANT (R112). -/
  | grant (p : PortId)
  /-- RELEASE: the decoder takes a RELEASE (R116). -/
  | release (p : PortId)
  /-- FLUSH: the decoder takes a FLUSH whose wait option is clear (R34). -/
  | flush (p : PortId)
  /-- FLUSH_WITH_WAIT: the decoder takes a FLUSH whose wait option is set (R64). -/
  | flushWithWait (p : PortId)
  /-- UNKNOWN_MGMT_OPERATION: the decoder takes a MGMT frame that names no operation (R141). -/
  | unknownMgmtOperation (p : PortId)
  /-- The eighteen management operations, each taken as a MGMT frame (R142, R171). -/
  | windowLoad (p : PortId)
  | windowClear (p : PortId)
  | windowRead (p : PortId)
  | grantRevoke (p : PortId)
  | bufferRead (p : PortId)
  | bufferRetry (p : PortId)
  | bufferDiscard (p : PortId)
  | sealAll (p : PortId)
  | channelOffline (p : PortId)
  | channelOnline (p : PortId)
  | eventsRead (p : PortId)
  | countersRead (p : PortId)
  | countersClear (p : PortId)
  | paramSet (p : PortId)
  | paramRead (p : PortId)
  | mgmtSetWrite (p : PortId)
  | statusRead (p : PortId)
  | restart (p : PortId)
  /-- STORE_COMPLETION: a completion arrives from the store device of the channel (R79). -/
  | storeCompletion (c : ChannelId) (number : BitVec 8) (status : CompletionStatus) (bytes : List Byte)
  /-- OPERATION_TIMER_EXPIRY: the operation timer of the channel expires (R82). -/
  | operationTimerExpiry (c : ChannelId)
  /-- IDLE_TIMER_EXPIRY: the idle timer of the buffer expires (R32). -/
  | idleTimerExpiry (b : BufferId)
  /-- OPEN_LIMIT_EXPIRY: the open-limit timer of the buffer expires (R33). -/
  | openLimitExpiry (b : BufferId)
  /-- HOLD_TIMER_EXPIRY: the hold timer of the slot expires (R62). -/
  | holdTimerExpiry (i : SlotId)
  /-- INACTIVITY_TIMER_EXPIRY: the inactivity timer of the window's grant expires (R118). -/
  | inactivityTimerExpiry (w : WindowId)
  /-- PIN_RESET: RESET_N is asserted (R155). -/
  | pinReset
  /-- RESET_DEASSERTION: RESET_N is deasserted, with the straps MGID[4:0] at this level (R156). -/
  | resetDeassertion (mgid : BitVec 5)
  deriving DecidableEq, Repr

end Sys2Proof
end

