-- ==== Sys2Proof/Decode.lean ====
section
/-! DEFINITION. The table's words. spec/opcode_table.json gives no row any bits ("fields": [] and no "fixed" in each), so no
word spells a command. The bytes of frames, which do spell requests, are read in Machine/Frames.lean. -/

namespace Sys2Proof

/-- The command a word of the table spells: none, since the table gives no row bits. -/
def decodeTableWord (_nbits _w : Nat) : Option Instr := none

end Sys2Proof
end

