-- ==== Sys2Proof/Config.lean ====
section
/-! DEFINITION. The figures fixed for the part: the principal numbers of 00_scope.md section 4 and the defaults and ranges
of the nine parameters (R145). The spec leaves no result of a command undefined, so there is no free value here. -/

namespace Sys2Proof.Config

/-- Frames an inbound or an outbound queue holds, and credits granted at link-up (R124, R125). -/
abbrev queuePlaces : Nat := 8

/-- Operations a channel queue holds (R72, R75). -/
abbrev channelPlaces : Nat := 16

/-- Bytes of a store page; also the bytes of a link page (R2). -/
abbrev pageBytes : Nat := 256

/-- Live buffers a store page may have (R26). -/
abbrev buffersPerPage : Nat := 2

/-- Pages of a sector (R14). -/
abbrev sectorPages : Nat := 16

/-- Records the event log holds (R159). -/
abbrev logPlaces : Nat := 16

/-- Link pages of the link address space (R1, R18). -/
abbrev linkPages : Nat := 16777216

/-- Store pages of a channel (R1, R18). -/
abbrev storePages : Nat := 65536

/-- Bytes of a header and of header and trailer together (R167). -/
abbrev headerBytes : Nat := 16
abbrev frameOverhead : Nat := 20

/-- The largest frame a partner may send: a WRITE with 64 data bytes (R169). -/
abbrev largestArrival : Nat := 84

/-- The largest READ or WRITE (R7). -/
abbrev largestTransfer : Nat := 64

/-- Operand bytes a MGMT frame may carry (R7). -/
abbrev largestOperand : Nat := 40

/-- Defaults of the parameters (R145). -/
abbrev holdTime : Nat := 5000
abbrev coalesceIdle : Nat := 2000
abbrev openLimit : Nat := 20
abbrev grantLife : Nat := 50
abbrev opTimeout : Nat := 10
abbrev retryLimit : Nat := 2
abbrev offlineStreak : Nat := 4
abbrev slotsPerReq : Nat := 2

/-- Microseconds of a millisecond, the unit of OPEN_LIMIT, GRANT_LIFE and OP_TIMEOUT (R145). -/
abbrev microsPerMilli : Nat := 1000

end Sys2Proof.Config
end

