-- ==== Sys2Proof/Machine/State.lean ====
section
/-! DEFINITION. The state of the LS416, block by block, as plain data, and the state pin reset leaves. A field the spec
calls absent has no place to stand: a FREE buffer or slot and a grant record without a holder are `none`. -/

namespace Sys2Proof.Machine

/-- Indexed bytes: positions strictly rising, each with its byte; an index not listed has none (log entries 9 and 10). -/
abbrev Cells := List Host.Cell

/-- The nine parameters (R145). -/
structure Params where
  holdTime : Nat
  coalesceIdle : Nat
  openLimit : Nat
  grantLife : Nat
  opTimeout : Nat
  retryLimit : Nat
  offlineStreak : Nat
  slotsPerReq : Nat
  noticeTarget : Option (ReqId × PortId)
  deriving DecidableEq, Repr

/-- The data request kinds a window allows (R1). -/
structure Rights where
  read : Bool
  write : Bool
  clear : Bool
  deriving DecidableEq, Repr

/-- A window entry (R1). -/
structure WindowEntry where
  valid : Bool
  requesters : ReqSet
  linkBase : BitVec 24
  pageCount : Nat
  channel : ChannelId
  storeBase : BitVec 16
  rights : Rights
  grantRequired : Bool
  deriving DecidableEq, Repr

/-- A held grant record (R110): its holder and the time left on its inactivity timer, which runs while it is held. -/
structure Grant where
  holder : ReqId
  timer : Micros
  deriving DecidableEq, Repr

/-- Why a buffer is HELD (R23, R96). -/
inductive HoldCause where
  | programFailed | channelOffline
  deriving DecidableEq, Repr

/-- The state of a live buffer (R24). The two timers run in OPEN alone (R31), the hold cause is there in HELD alone (R23). -/
inductive BufferPhase where
  | opened (idle limit : Micros)
  | sealed
  | queued
  | programming
  | held (cause : HoldCause)
  deriving DecidableEq, Repr

/-- A live staging buffer (R23). `staged` is the tag set and the data: a position is tagged when it is listed. -/
structure Buffer where
  channel : ChannelId
  page : BitVec 16
  stamp : BitVec 32
  staged : Cells
  writers : ReqSet
  grantWindows : BitVec 24
  phase : BufferPhase
  attempts : Nat
  deriving DecidableEq, Repr

/-- Why a slot FAILED (R48); also the cause of a CLEAR_FAILED record (R158). -/
inductive FailureCause where
  | storeFailed | channelOffline
  deriving DecidableEq, Repr

/-- What a READ slot keeps of its read (R48). The overlay has one entry a position: a byte where the mask is set (R44). -/
structure ReadWork where
  channel : ChannelId
  page : BitVec 16
  offset : Nat
  length : Nat
  overlay : List (Option Byte)
  number : Option (BitVec 8)
  deriving DecidableEq, Repr

/-- The kind of a slot with the fields of that kind (R48). -/
inductive SlotWork where
  | read (r : ReadWork)
  | sync (waitSet : BitVec 12)
  deriving DecidableEq, Repr

/-- The state of a live slot (R49). The hold timer runs in READY and FAILED (R62); a SYNC slot's data is empty. -/
inductive SlotPhase where
  | fetching
  | ready (data : List Byte) (hold : Micros)
  | failed (cause : FailureCause) (hold : Micros)
  deriving DecidableEq, Repr

/-- A live read slot (R48). -/
structure Slot where
  ticket : BitVec 8
  requester : ReqId
  work : SlotWork
  phase : SlotPhase
  deriving DecidableEq, Repr

/-- The states of a store channel (R73). -/
inductive ChannelState where
  | idle | busy | quiescing | offline
  deriving DecidableEq, Repr

/-- What an operation does and for whom (R74). -/
inductive OpKind where
  | fetch (page : BitVec 16) (offset length : Nat) (slot : SlotId)
  | program (page : BitVec 16) (buffer : BufferId)
  | clear (sector : BitVec 12) (requester : ReqId)
  deriving DecidableEq, Repr

/-- An operation record (R74). -/
structure Op where
  kind : OpKind
  attempts : Nat
  deriving DecidableEq, Repr

/-- The request a command on the store port carries (R76). -/
inductive StoreRequest where
  | fetch (page : BitVec 16) (offset length : Nat)
  | program (page : BitVec 16) (staged : Cells)
  | clear (sector : BitVec 12)
  deriving DecidableEq, Repr

/-- A command on the store port (R76). -/
structure StoreCommand where
  number : BitVec 8
  request : StoreRequest
  deriving DecidableEq, Repr

/-- A store channel (R72). `sent` is the command last sent on its port (R76, log entry 11). -/
structure Channel where
  state : ChannelState
  queue : List Op
  timer : Option Micros
  streak : Nat
  number : BitVec 8
  sent : Option StoreCommand
  deriving DecidableEq, Repr

/-- The refusal reasons (R173). -/
inductive Reason where
  | badFrame | notReady | notManager | noWindow | noRight | range | noGrant | grantHeld | offline | busy | conflict
  | noTicket | storeError
  deriving DecidableEq, Repr

/-- The management results (R173). -/
inductive MgmtResult where
  | ok | badOperand | overlap | wrongState | emptySet | notReady
  deriving DecidableEq, Repr

/-- The kinds of frame a port queues for transmission, with the fields each carries (R170). -/
inductive Body where
  | data (bytes : List Byte)
  | defer (ticket : BitVec 8)
  | ack (count : Nat)
  | refuse (reason : Reason)
  | mgmtReply (code : Byte) (result : MgmtResult) (operand : List Byte)
  | notice (depth : Nat) (newest : BitVec 16)
  deriving DecidableEq, Repr

/-- An outbound frame: complete at placement but for its credit return, 0 until its transmission starts (R124, R132). -/
structure OutFrame where
  dest : Byte
  tag : Byte
  creditReturn : Nat
  body : Body
  deriving DecidableEq, Repr

/-- The transmitter of a port: SENDING is the head of the outbound queue, or a CREDIT frame (R132, R133). -/
inductive Transmitter where
  | idle
  | sendingHead
  | sendingCredit (creditReturn : Nat)
  deriving DecidableEq, Repr

/-- The counters of a port (R138). -/
structure PortCounters where
  framesTaken : BitVec 32
  crcDrops : BitVec 32
  misrouted : BitVec 32
  overruns : BitVec 32
  format : BitVec 32
  access : BitVec 32
  decode : BitVec 32
  grant : BitVec 32
  channel : BitVec 32
  resource : BitVec 32
  result : BitVec 32
  deriving DecidableEq, Repr

/-- A link port (R124). `up` is its state; frames of the inbound queue stand byte for byte as they arrived. -/
structure Port where
  up : Bool
  inbound : List (List Byte)
  outbound : List OutFrame
  reserved : Nat
  transmitter : Transmitter
  owed : Nat
  counters : PortCounters
  deriving DecidableEq, Repr

/-- The causes of an offline entry (R88) and of a GRANT_REVOKED record (R117). -/
inductive OfflineCause where
  | requested | streak
  deriving DecidableEq, Repr
inductive RevokeCause where
  | revoke | windowLoad | windowClear
  deriving DecidableEq, Repr

/-- The fourteen event kinds, each with the fields its records hold (R158). -/
inductive Event where
  | linkUp (p : PortId)
  | linkDown (p : PortId)
  | frameOverrun (p : PortId)
  | readAbandoned (requester : ReqId) (ticket : BitVec 8) (slot : SlotId)
  | fetchFailed (c : ChannelId) (requester : ReqId) (page : BitVec 16) (slot : SlotId)
  | programHeld (c : ChannelId) (page : BitVec 16) (buffer : BufferId)
  | clearFailed (c : ChannelId) (requester : ReqId) (sector : BitVec 12) (cause : FailureCause)
  | lateCompletion (c : ChannelId)
  | channelOffline (c : ChannelId) (cause : OfflineCause)
  | channelOnline (c : ChannelId)
  | bufferDiscarded (c : ChannelId) (requester : ReqId) (page : BitVec 16) (buffer : BufferId) (cause : HoldCause)
  | grantExpired (requester : ReqId) (window : WindowId)
  | grantRevoked (requester : ReqId) (window : WindowId) (cause : RevokeCause)
  | restartDone (requester : ReqId)
  deriving DecidableEq, Repr

/-- An event record (R157). -/
structure EventRecord where
  sequence : BitVec 16
  time : BitVec 32
  event : Event
  deriving DecidableEq, Repr

/-- The notice state (R161). -/
inductive NoticeState where
  | armed | pending | sent
  deriving DecidableEq, Repr

/-- The part-wide counters (R163). -/
structure PartCounters where
  overlayHits : BitVec 32
  readsDeferred : BitVec 32
  readsAbandoned : BitVec 32
  programsCompleted : BitVec 32
  attemptsFailed : BitVec 32
  timeouts : BitVec 32
  lateCompletions : BitVec 32
  busyRefusals : BitVec 32
  deriving DecidableEq, Repr

/-- The whole part, and the queue of the commands that wait. -/
structure State where
  /-- RESET_N is asserted (R155). -/
  resetAsserted : Bool
  /-- Window table (R1). -/
  windows : Vector WindowEntry 24
  /-- Grant table (R110): `none` is a record without a holder. -/
  grants : Vector (Option Grant) 24
  /-- Staging buffers (R23): `none` is FREE. -/
  buffers : Vector (Option Buffer) 12
  /-- The live buffers in the order of their openings (R25). -/
  openOrder : List BufferId
  /-- Seal list (R35). -/
  sealList : List BufferId
  /-- Open counter (R25). -/
  openCounter : BitVec 32
  /-- Read slots (R48): `none` is FREE. -/
  slots : Vector (Option Slot) 8
  /-- Ticket counter (R50). -/
  ticketCounter : BitVec 8
  /-- Store channels (R72). -/
  sc0 : Channel
  sc1 : Channel
  /-- Link ports (R124). -/
  lp0 : Port
  lp1 : Port
  /-- Management set (R140, R143). -/
  managers : ReqSet
  /-- Parameter set (R145). -/
  params : Params
  /-- Restart pending with the restart requester; `none` is not pending (R140). -/
  restart : Option ReqId
  /-- Time base (R148). -/
  timeBase : BitVec 32
  /-- Event records, oldest first (R159). -/
  log : List EventRecord
  /-- Sequence counter (R159). -/
  sequence : BitVec 16
  /-- Overflow count (R159). -/
  overflow : BitVec 16
  /-- Notice state (R161). -/
  notice : NoticeState
  /-- Part-wide counters (R163). -/
  counters : PartCounters
  /-- What the OK completions taken so far say each store holds (R76), indexed by page times 256 plus position. -/
  store0 : Cells
  store1 : Cells
  /-- The commands that wait, first in first out. -/
  pending : List Instr
  deriving DecidableEq, Repr

/-- Why the machine stops with a fault: never. The spec names no condition that stops the part, so the type is empty. -/
inductive Fault where
  deriving DecidableEq, Repr

/-- Why a command has no meaning. -/
inductive Refusal where
  /-- Raised by an arm of exec whose command is not modelled yet, with the row's mnemonic; safe. No arm raises it. -/
  | notModelled (mnemonic : String)
  deriving DecidableEq, Repr

/-- Pin reset values of the parameters (R145). -/
def Params.defaults : Params where
  holdTime := Config.holdTime
  coalesceIdle := Config.coalesceIdle
  openLimit := Config.openLimit
  grantLife := Config.grantLife
  opTimeout := Config.opTimeout
  retryLimit := Config.retryLimit
  offlineStreak := Config.offlineStreak
  slotsPerReq := Config.slotsPerReq
  noticeTarget := none

/-- Pin reset value of a window entry (R1). -/
def WindowEntry.reset : WindowEntry where
  valid := false
  requesters := 0
  linkBase := 0
  pageCount := 0
  channel := .sc0
  storeBase := 0
  rights := ⟨false, false, false⟩
  grantRequired := false

/-- Pin reset value of a channel (R72, R95). -/
def Channel.reset : Channel where
  state := .idle
  queue := []
  timer := none
  streak := 0
  number := 0
  sent := none

/-- Pin reset value of the counters of a port (R138) and of the part (R163). -/
def PortCounters.zero : PortCounters := ⟨0, 0, 0, 0, 0, 0, 0, 0, 0, 0, 0⟩
def PartCounters.zero : PartCounters := ⟨0, 0, 0, 0, 0, 0, 0, 0⟩

/-- Pin reset value of a port (R124, R139). -/
def Port.reset : Port where
  up := false
  inbound := []
  outbound := []
  reserved := 0
  transmitter := .idle
  owed := 0
  counters := PortCounters.zero

/-- The part right after pin reset, with RESET_N still asserted (R155 and the table after R156; log entry 6). The management
set is sampled at the deassertion only; until then it stands at the value a strap of 0 is read as (log entry 7). -/
def State.reset : State where
  resetAsserted := true
  windows := Vector.replicate 24 WindowEntry.reset
  grants := Vector.replicate 24 none
  buffers := Vector.replicate 12 none
  openOrder := []
  sealList := []
  openCounter := 0
  slots := Vector.replicate 8 none
  ticketCounter := 1
  sc0 := Channel.reset
  sc1 := Channel.reset
  lp0 := Port.reset
  lp1 := Port.reset
  managers := 0x80000000#32
  params := Params.defaults
  restart := none
  timeBase := 0
  log := []
  sequence := 0
  overflow := 0
  notice := .armed
  counters := PartCounters.zero
  store0 := []
  store1 := []
  pending := []

end Sys2Proof.Machine
end

