-- ==== Sys2Proof/Machine/Access.lean ====
section
/-! DEFINITION. The one way to each piece of state: sets held as bits, indexed bytes, saturating counts, and the reads and
updates of a channel, a port, a buffer, a slot, a grant record and a window entry. -/

namespace Sys2Proof.Machine

/-! ### Sets held as bits (chapter 10: bit n stands for n) -/

/-- n is a member. -/
def inSet {k : Nat} (m : BitVec k) (n : Nat) : Bool := m.getLsbD n

/-- The set with n joined. -/
def joinSet {k : Nat} (m : BitVec k) (n : Nat) : BitVec k := m ||| BitVec.twoPow k n

/-- The set without n. -/
def leaveSet {k : Nat} (m : BitVec k) (n : Nat) : BitVec k := m &&& ~~~ (BitVec.twoPow k n)

/-- The set of the members of a list. -/
def setOfList (k : Nat) (ns : List Nat) : BitVec k := ns.foldl joinSet 0

/-! ### Indexed bytes -/

/-- The canonical form: positions strictly rising. A position is listed exactly when it holds a byte. -/
abbrev cellsWf (m : Cells) : Prop := m.Pairwise (fun a b => a.1 < b.1)

/-- The byte at a position, if one is there. -/
def cellAt : Cells → Nat → Option Byte
  | [], _ => none
  | (a, v) :: t, k => if a = k then some v else cellAt t k

/-- The bytes with position k set to v. -/
def setCell : Cells → Nat → Byte → Cells
  | [], k, v => [(k, v)]
  | (a, w) :: t, k, v =>
    if k < a then (k, v) :: (a, w) :: t
    else if k = a then (k, v) :: t
    else (a, w) :: setCell t k v

/-- The bytes with positions k, k + 1, … set to those of a list. -/
def setCells : Cells → Nat → List Byte → Cells
  | m, _, [] => m
  | m, k, v :: vs => setCells (setCell m k v) (k + 1) vs

/-- The bytes with those of `top`, moved up by `base`, laid over them. -/
def layCells (m : Cells) (base : Nat) : Cells → Cells
  | [] => m
  | (k, v) :: t => layCells (setCell m (base + k) v) base t

/-- The bytes with the n positions from lo on all set to v. -/
def fillCells (m : Cells) (lo n : Nat) (v : Byte) : Cells :=
  m.filter (fun c => c.1 < lo) ++ (List.range n).map (fun i => (lo + i, v)) ++ m.filter (fun c => lo + n ≤ c.1)

/-! ### Counts -/

/-- One more, stopping at the greatest value (R138, R159, R163). -/
def bump {k : Nat} (n : BitVec k) : BitVec k := if n = BitVec.allOnes k then n else n + 1

/-- A time left after n microseconds more; it stops at 0 (log entry 2). -/
def runDown (n left : Micros) : Micros := left - n

namespace State

/-! ### Channels, ports and stores -/

/-- The channel of an ID. -/
def channel (s : State) : ChannelId → Channel
  | .sc0 => s.sc0
  | .sc1 => s.sc1

/-- The state with that channel replaced. -/
def setChannel (s : State) (c : ChannelId) (ch : Channel) : State :=
  match c with
  | .sc0 => { s with sc0 := ch }
  | .sc1 => { s with sc1 := ch }

/-- The port of an ID. -/
def port (s : State) : PortId → Port
  | .lp0 => s.lp0
  | .lp1 => s.lp1

/-- The state with that port replaced. -/
def setPort (s : State) (p : PortId) (q : Port) : State :=
  match p with
  | .lp0 => { s with lp0 := q }
  | .lp1 => { s with lp1 := q }

/-- What the part takes the store of a channel to hold (R76). -/
def store (s : State) : ChannelId → Cells
  | .sc0 => s.store0
  | .sc1 => s.store1

/-- The state with that store replaced. -/
def setStore (s : State) (c : ChannelId) (m : Cells) : State :=
  match c with
  | .sc0 => { s with store0 := m }
  | .sc1 => { s with store1 := m }

/-! ### Buffers, slots, grants and windows -/

/-- The buffer of a number; `none` is FREE. -/
def buffer (s : State) (b : BufferId) : Option Buffer := s.buffers[b]

/-- The state with that buffer replaced. -/
def setBuffer (s : State) (b : BufferId) (x : Option Buffer) : State := { s with buffers := s.buffers.set b x }

/-- The state with a live buffer changed; a FREE one is left. -/
def modifyBuffer (s : State) (b : BufferId) (f : Buffer → Buffer) : State :=
  match s.buffer b with
  | some x => s.setBuffer b (some (f x))
  | none => s

/-- The slot of a number; `none` is FREE. -/
def slot (s : State) (i : SlotId) : Option Slot := s.slots[i]

/-- The state with that slot replaced. -/
def setSlot (s : State) (i : SlotId) (x : Option Slot) : State := { s with slots := s.slots.set i x }

/-- The grant record of a window; `none` has no holder. -/
def grantOf (s : State) (w : WindowId) : Option Grant := s.grants[w]

/-- The state with that grant record replaced. -/
def setGrant (s : State) (w : WindowId) (g : Option Grant) : State := { s with grants := s.grants.set w g }

/-- The entry of a window index. -/
def window (s : State) (w : WindowId) : WindowEntry := s.windows[w]

/-- The state with that entry replaced. -/
def setWindow (s : State) (w : WindowId) (e : WindowEntry) : State := { s with windows := s.windows.set w e }

/-- The state with the part-wide counters changed. -/
def setCounters (s : State) (k : PartCounters) : State := { s with counters := k }

/-- Restart is pending (R140). -/
def restartPending (s : State) : Bool := s.restart.isSome

end State

/-! ### The passing of time (R148; log entries 1 and 2) -/

/-- The time left on the timers of a buffer, which run in OPEN alone. -/
def BufferPhase.elapse (n : Micros) : BufferPhase → BufferPhase
  | .opened idle limit => .opened (runDown n idle) (runDown n limit)
  | .sealed => .sealed
  | .queued => .queued
  | .programming => .programming
  | .held cause => .held cause

/-- The time left on the hold timer of a slot, which runs in READY and FAILED. -/
def SlotPhase.elapse (n : Micros) : SlotPhase → SlotPhase
  | .fetching => .fetching
  | .ready data hold => .ready data (runDown n hold)
  | .failed cause hold => .failed cause (runDown n hold)

/-- The time left on the operation timer of a channel. -/
def Channel.elapse (n : Micros) (ch : Channel) : Channel := { ch with timer := ch.timer.map (runDown n) }

/-- n microseconds pass: the time base counts them and every running timer loses them. -/
def State.elapse (n : Micros) (s : State) : State :=
  { s with
    timeBase := s.timeBase + BitVec.ofNat 32 n
    buffers := s.buffers.map (Option.map fun x => { x with phase := x.phase.elapse n })
    slots := s.slots.map (Option.map fun x => { x with phase := x.phase.elapse n })
    grants := s.grants.map (Option.map fun g => { g with timer := runDown n g.timer })
    sc0 := s.sc0.elapse n
    sc1 := s.sc1.elapse n }

end Sys2Proof.Machine
end

