-- ==== Sys2Proof/Machine/Frames.lean ====
section
/-! DEFINITION. Frames as bytes (R167 to R170), the code values (R173), and which command takes which frame. -/

namespace Sys2Proof.Machine

/-! ### Byte order: most significant byte first (chapter 10) -/

/-- The number of some bytes. -/
def numberOf (bs : List Byte) : Nat := bs.foldl (fun n b => n * 256 + b.toNat) 0

/-- The field of n bytes from byte i on. -/
def fieldAt (bs : List Byte) (i n : Nat) : Nat := numberOf ((bs.drop i).take n)

/-- The byte at i; a frame that short is never queued (R128), an operand that short is never read (R141). -/
def byteAt (bs : List Byte) (i : Nat) : Byte := bs.getD i 0

/-- A number as n bytes. -/
def bytesOf (n : Nat) (x : Nat) : List Byte :=
  (List.range n).map fun i => BitVec.ofNat 8 (x / 256 ^ (n - 1 - i))

/-! ### The trailer (R169) -/

/-- The remainder register after some bits. -/
def crcBits : BitVec 32 → List Bool → BitVec 32
  | r, [] => r
  | r, b :: bs =>
    if r.msb ^^ b then crcBits ((r <<< 1) ^^^ 0x04C11DB7#32) bs else crcBits (r <<< 1) bs

/-- The bits of some bytes in the order they enter, least significant bit of each byte first. -/
def crcInput (bs : List Byte) : List Bool := bs.flatMap fun b => (List.range 8).map b.getLsbD

/-- CRC-32 of some bytes: from all ones, bit-reversed and inverted at the end. -/
def crc32 (bs : List Byte) : BitVec 32 := ~~~ (crcBits (BitVec.allOnes 32) (crcInput bs)).reverse

/-- Bytes with their trailer. -/
def withTrailer (bs : List Byte) : List Byte := bs ++ bytesOf 4 (crc32 bs).toNat

/-- The trailer of a frame matches it. -/
def trailerMatches (f : List Byte) : Bool :=
  f == withTrailer (f.take (f.length - 4))

/-! ### The header of an arrived frame (R167) -/

def frameKind (f : List Byte) : Byte := byteAt f 0
def frameSource (f : List Byte) : Byte := byteAt f 1
def frameDest (f : List Byte) : Byte := byteAt f 2
def frameTag (f : List Byte) : Byte := byteAt f 3
def frameFlags (f : List Byte) : Byte := byteAt f 5
def frameLength (f : List Byte) : Nat := fieldAt f 6 2
def frameAddress (f : List Byte) : Nat := fieldAt f 8 4
def frameTicket (f : List Byte) : Byte := byteAt f 12
def frameZeros (f : List Byte) : Nat := fieldAt f 13 3

/-- The payload: what stands between the header and the trailer (R167, R170). -/
def framePayload (f : List Byte) : List Byte := (f.drop Config.headerBytes).take (f.length - Config.frameOverhead)

/-- The requester of a well-formed frame (R6). -/
def frameRequester (f : List Byte) : ReqId := (frameSource f).setWidth 5

/-- Link page and offset of the address (R2). -/
def frameLinkPage (f : List Byte) : Nat := frameAddress f / Config.pageBytes
def frameOffset (f : List Byte) : Nat := frameAddress f % Config.pageBytes

/-- The wait option (R167). -/
def frameWait (f : List Byte) : Bool := (frameFlags f).getLsbD 0

/-! ### Kinds and operation codes (R171, R173) -/

/-- The eight request kinds. -/
inductive RequestKind where
  | read | write | clear | collect | grant | release | flush | mgmt
  deriving DecidableEq, Repr

/-- The request kind a code names. -/
def requestKindOf (code : Byte) : Option RequestKind :=
  match code.toNat with
  | 0x01 => some .read
  | 0x02 => some .write
  | 0x03 => some .clear
  | 0x04 => some .collect
  | 0x05 => some .grant
  | 0x06 => some .release
  | 0x07 => some .flush
  | 0x08 => some .mgmt
  | _ => none

/-- The command that takes a MGMT frame with this operation code (R171). -/
def mgmtCommandOf (p : PortId) (code : Byte) : Instr :=
  match code.toNat with
  | 0x10 => .windowLoad p
  | 0x11 => .windowClear p
  | 0x12 => .windowRead p
  | 0x18 => .grantRevoke p
  | 0x20 => .bufferRead p
  | 0x21 => .bufferRetry p
  | 0x22 => .bufferDiscard p
  | 0x23 => .sealAll p
  | 0x30 => .channelOffline p
  | 0x31 => .channelOnline p
  | 0x40 => .eventsRead p
  | 0x41 => .countersRead p
  | 0x42 => .countersClear p
  | 0x50 => .paramSet p
  | 0x51 => .paramRead p
  | 0x52 => .mgmtSetWrite p
  | 0x53 => .statusRead p
  | 0x5F => .restart p
  | _ => .unknownMgmtOperation p

/-- The one command that takes a frame from a port. Each frame has exactly one: a malformed frame belongs to the row of its
kind, a FLUSH to the row of its wait bit, a MGMT frame without an operation code to UNKNOWN_MGMT_OPERATION (log entry 5). -/
def takingCommand (p : PortId) (f : List Byte) : Instr :=
  match requestKindOf (frameKind f) with
  | some .read => .read p
  | some .write => .write p
  | some .clear => .clear p
  | some .collect => .collect p
  | some .grant => .grant p
  | some .release => .release p
  | some .flush => if frameWait f then .flushWithWait p else .flush p
  | some .mgmt =>
    match framePayload f with
    | code :: _ => mgmtCommandOf p code
    | [] => .unknownMgmtOperation p
  | none => .unknownFrameKind p

/-! ### Check 1 (R7, R168, R170) -/

/-- The kind carries an address. -/
def RequestKind.hasAddress : RequestKind → Bool
  | .read | .write | .clear | .grant | .release => true
  | .collect | .flush | .mgmt => false

/-- The length field and the payload size agree with the kind (R7, R170). -/
def lengthFits (k : RequestKind) (length payload : Nat) : Bool :=
  match k with
  | .read => 1 ≤ length && length ≤ Config.largestTransfer && payload == 0
  | .write => 1 ≤ length && length ≤ Config.largestTransfer && payload == length
  | .mgmt => 1 ≤ length && length ≤ 1 + Config.largestOperand && payload == length
  | .clear | .grant | .release | .collect | .flush => length == 0 && payload == 0

/-- The option flags the kind may set (R7): the wait option, for a FLUSH. -/
def flagsFit (k : RequestKind) (flags : Byte) : Bool :=
  match k with
  | .flush => flags == 0 || flags == 1
  | .read | .write | .clear | .collect | .grant | .release | .mgmt => flags == 0

/-- The frame passes check 1. -/
def frameWellFormed (f : List Byte) : Bool :=
  match requestKindOf (frameKind f) with
  | none => false
  | some k =>
    (1 ≤ (frameSource f).toNat && (frameSource f).toNat ≤ 31)
      && lengthFits k (frameLength f) (framePayload f).length
      && flagsFit k (frameFlags f)
      && (k.hasAddress || frameAddress f == 0)
      && (k == .collect || frameTicket f == 0)
      && frameZeros f == 0

/-! ### Outbound frames (R167, R168, R170) -/

/-- The codes of the refusal reasons (R173). -/
def Reason.code : Reason → Nat
  | .badFrame => 1
  | .notReady => 2
  | .notManager => 3
  | .noWindow => 4
  | .noRight => 5
  | .range => 6
  | .noGrant => 7
  | .grantHeld => 8
  | .offline => 9
  | .busy => 10
  | .conflict => 11
  | .noTicket => 12
  | .storeError => 13

/-- The codes of the management results (R173). -/
def MgmtResult.code : MgmtResult → Nat
  | .ok => 0
  | .badOperand => 1
  | .overlap => 2
  | .wrongState => 3
  | .emptySet => 4
  | .notReady => 5

/-- Kind code of an outbound frame (R173). -/
def Body.kindCode : Body → Nat
  | .data _ => 0x81
  | .defer _ => 0x82
  | .ack _ => 0x83
  | .refuse _ => 0x84
  | .mgmtReply _ _ _ => 0x85
  | .notice _ _ => 0x86

/-- Payload of an outbound frame (R170). -/
def Body.payload : Body → List Byte
  | .data bytes => bytes
  | .defer _ => []
  | .ack n => bytesOf 1 n
  | .refuse r => bytesOf 1 r.code
  | .mgmtReply code result operand => code :: bytesOf 1 result.code ++ operand
  | .notice depth newest => bytesOf 1 depth ++ bytesOf 2 newest.toNat

/-- Ticket field of an outbound frame: a DEFER alone carries one (R170). -/
def Body.ticketField : Body → Byte
  | .defer t => t
  | .data _ | .ack _ | .refuse _ | .mgmtReply _ _ _ | .notice _ _ => 0

/-- A frame the part sends: source 0, zero in the fields the kind does not carry, and its trailer (R168, R169). -/
def sentFrame (kind : Nat) (dest tag : Byte) (credits : Nat) (ticket : Byte) (payload : List Byte) : List Byte :=
  withTrailer (bytesOf 1 kind ++ [0, dest, tag] ++ bytesOf 1 credits ++ [0] ++ bytesOf 2 payload.length
    ++ [0, 0, 0, 0, ticket, 0, 0, 0] ++ payload)

/-- The bytes of an outbound frame. -/
def OutFrame.bytes (r : OutFrame) : List Byte :=
  sentFrame r.body.kindCode r.dest r.tag r.creditReturn r.body.ticketField r.body.payload

/-- The bytes of a CREDIT frame (R133, R168). -/
def creditFrameBytes (credits : Nat) : List Byte := sentFrame 0x87 0 0 credits 0 []

/-- The bytes of the frame a port is transmitting, if any (R132, R133; log entry 12). -/
def Port.onLanes (q : Port) : Option (List Byte) :=
  match q.transmitter, q.outbound with
  | .sendingHead, r :: _ => some r.bytes
  | .sendingCredit n, _ => some (creditFrameBytes n)
  | .sendingHead, [] => none
  | .idle, _ => none

end Sys2Proof.Machine
end

