-- ==== Sys2Proof/Machine/Flags.lean ====
section
/-! DEFINITION. Counters, the event log and the notice state (R138, R157 to R163), and the port's transmit side, on which a
NOTICE is placed (R130 to R134). -/

namespace Sys2Proof.Machine

/-! ### Port counters (R138) -/

/-- The refusal counter of a reason's class, raised. -/
def PortCounters.countReason (k : PortCounters) : Reason → PortCounters
  | .badFrame => { k with format := bump k.format }
  | .notReady | .notManager => { k with access := bump k.access }
  | .noWindow | .noRight | .range => { k with decode := bump k.decode }
  | .noGrant | .grantHeld => { k with grant := bump k.grant }
  | .offline => { k with channel := bump k.channel }
  | .busy | .conflict => { k with resource := bump k.resource }
  | .noTicket | .storeError => { k with result := bump k.result }

/-- The counters after a response is placed: only a REFUSE raises one (R138). -/
def PortCounters.countBody (k : PortCounters) : Body → PortCounters
  | .refuse r => k.countReason r
  | .data _ | .defer _ | .ack _ | .mgmtReply _ _ _ | .notice _ _ => k

/-! ### The transmit side of a port (R130, R132, R133) -/

/-- The port's transmitter, if it is IDLE and the port UP, starts the head of the outbound queue (R132), or a CREDIT frame when
the queue is empty and credits are owed (R133), or stays IDLE. -/
def Port.startTransmitter (q : Port) : Port :=
  match q.up, q.transmitter, q.outbound with
  | true, .idle, r :: t =>
    { q with outbound := { r with creditReturn := q.owed } :: t, owed := 0, transmitter := .sendingHead }
  | true, .idle, [] =>
    if 1 ≤ q.owed then { q with owed := 0, transmitter := .sendingCredit q.owed } else q
  | _, _, _ => q

/-- Outbound places in use plus places reserved (R131). -/
def Port.placesUsed (q : Port) : Nat := q.outbound.length + q.reserved

/-- The port has a free outbound place. -/
def Port.hasPlace (q : Port) : Bool := q.up && q.placesUsed < Config.queuePlaces

/-- A frame joins the tail of the outbound queue; the transmitter starts if it is IDLE. -/
def Port.place (q : Port) (r : OutFrame) : Port := { q with outbound := q.outbound ++ [r] }.startTransmitter

/-! ### The event log (R159, R161) -/

/-- An append offers one record: it is kept while the log holds fewer than 16, else counted as overflow (R159); an ARMED notice
state becomes PENDING when a target is set (R161). -/
def State.append (e : Event) (s : State) : State :=
  let s1 :=
    if s.log.length < Config.logPlaces then
      { s with log := s.log ++ [⟨s.sequence, s.timeBase, e⟩], sequence := s.sequence + 1 }
    else { s with overflow := bump s.overflow }
  match s.notice, s.params.noticeTarget with
  | .armed, some _ => { s1 with notice := .pending }
  | _, _ => s1

/-- Sequence of the newest record (R162). A PENDING notice always finds one (R161). -/
def State.newestSequence (s : State) : BitVec 16 :=
  match s.log.getLast? with
  | some r => r.sequence
  | none => 0

/-- The NOTICE frame for a requester (R134, R168). -/
def State.noticeFrame (s : State) (q : ReqId) : OutFrame := ⟨q.setWidth 8, 0, 0, .notice s.log.length s.newestSequence⟩

/-- The end of every event: a PENDING notice is placed on its target port if that is UP with a free place (R134, R162). -/
def State.placeNotice (s : State) : State :=
  match s.notice, s.params.noticeTarget with
  | .pending, some (q, p) =>
    if (s.port p).hasPlace then { s.setPort p ((s.port p).place (s.noticeFrame q)) with notice := .sent } else s
  | _, _ => s

/-- The notice state after PARAM_SET left NOTICE_TARGET as it now stands, changed (R161). -/
def State.retarget (s : State) : State :=
  match s.params.noticeTarget with
  | none => { s with notice := .armed }
  | some _ => { s with notice := if s.log.isEmpty then .armed else .pending }

/-! ### Part-wide counters (R163) -/

def State.countOverlayHit (s : State) : State := s.setCounters { s.counters with overlayHits := bump s.counters.overlayHits }
def State.countDeferred (s : State) : State := s.setCounters { s.counters with readsDeferred := bump s.counters.readsDeferred }
def State.countAbandoned (s : State) : State :=
  s.setCounters { s.counters with readsAbandoned := bump s.counters.readsAbandoned }
def State.countProgram (s : State) : State :=
  s.setCounters { s.counters with programsCompleted := bump s.counters.programsCompleted }
def State.countFailedAttempt (s : State) : State :=
  s.setCounters { s.counters with attemptsFailed := bump s.counters.attemptsFailed }
def State.countTimeout (s : State) : State := s.setCounters { s.counters with timeouts := bump s.counters.timeouts }
def State.countLate (s : State) : State := s.setCounters { s.counters with lateCompletions := bump s.counters.lateCompletions }
def State.countBusy (s : State) : State := s.setCounters { s.counters with busyRefusals := bump s.counters.busyRefusals }

end Sys2Proof.Machine
end

