-- ==== Sys2Proof/Machine/Ops.lean ====
section
/-! DEFINITION. The shared operations of the blocks: what the read slot table, the staging pool, the store channels, the grant
table and the restart do inside an event, each from the rule that owns it. -/

namespace Sys2Proof.Machine

/-! ### Read slot table (R50, R51, R54 to R57, R66, R67) -/

/-- Number of live slots a requester owns (R51). -/
def State.ownedSlots (s : State) (q : ReqId) : Nat :=
  s.slots.toList.countP fun o => match o with
    | some x => x.requester == q
    | none => false

/-- The lowest-numbered FREE slot. -/
def State.freeSlot (s : State) : Option SlotId := (List.finRange 8).find? fun i => (s.slot i).isNone

/-- The slot R51 allocates to a requester: none when it owns SLOTS_PER_REQ or more, or no slot is FREE. -/
def State.slotFor (s : State) (q : ReqId) : Option SlotId :=
  if s.ownedSlots q < s.params.slotsPerReq then s.freeSlot else none

/-- A live slot holds the ticket. -/
def State.ticketLive (s : State) (t : BitVec 8) : Bool :=
  s.slots.toList.any fun o => match o with
    | some x => x.ticket == t
    | none => false

/-- The ticket number after one, with 255 followed by 1 (R50). -/
def nextTicket (t : BitVec 8) : BitVec 8 := if t = 255#8 then 1#8 else t + 1

/-- The first number from t upward that no live slot holds, looking at most `tries` further on (R50). -/
def State.searchTicket (s : State) : Nat → BitVec 8 → BitVec 8
  | 0, t => t
  | tries + 1, t => if s.ticketLive t then s.searchTicket tries (nextTicket t) else t

/-- The ticket the next allocation issues: it is found among the first eight considered (R50). -/
def State.issuedTicket (s : State) : BitVec 8 := s.searchTicket 8 s.ticketCounter

/-- A slot is allocated: FETCHING, with the issued ticket; the counter takes the number after it (R50, R53, R65). -/
def State.allocate (s : State) (i : SlotId) (q : ReqId) (work : SlotWork) : State :=
  { s.setSlot i (some ⟨s.issuedTicket, q, work, .fetching⟩) with ticketCounter := nextTicket s.issuedTicket }

/-- The live slot that holds a ticket; 0 is held by none (R60). -/
def State.slotOfTicket (s : State) (t : BitVec 8) : Option SlotId :=
  if t = 0 then none
  else (List.finRange 8).find? fun i => match s.slot i with
    | some x => x.ticket == t
    | none => false

/-- The data of a READ slot: the overlay byte where the mask is set, else the store byte (R55). -/
def assemble (overlay : List (Option Byte)) (storeBytes : List Byte) : List Byte :=
  List.zipWith (fun o v => o.getD v) overlay storeBytes

/-- The slot takes the operation number of the attempt started (R54). -/
def Slot.attemptStarted (n : BitVec 8) (x : Slot) : Slot :=
  match x.work with
  | .read r => { x with work := .read { r with number := some n } }
  | .sync _ => x

/-- The read of a slot that is FETCHING, of kind READ, and holds the operation number (R54). -/
def Slot.awaits (x : Slot) (n : BitVec 8) : Option ReadWork :=
  match x.phase, x.work with
  | .fetching, .read r => if r.number = some n then some r else none
  | _, _ => none

/-- The slot has the attempt's number (R54). -/
def State.slotAttempt (s : State) (i : SlotId) (n : BitVec 8) : State :=
  match s.slot i with
  | some x => s.setSlot i (some (x.attemptStarted n))
  | none => s

/-- FETCH success: READY with its data, hold timer started (R55). A report for another attempt changes nothing (R54). -/
def State.fetchSucceeded (s : State) (i : SlotId) (n : BitVec 8) (bytes : List Byte) : State :=
  match s.slot i with
  | some x =>
    match x.awaits n with
    | some r => s.setSlot i (some { x with phase := .ready (assemble r.overlay bytes) s.params.holdTime })
    | none => s
  | none => s

/-- Final FETCH failure: FAILED with STORE_FAILED, hold timer started, FETCH_FAILED appended (R56). -/
def State.fetchFailed (s : State) (c : ChannelId) (i : SlotId) (n : BitVec 8) : State :=
  match s.slot i with
  | some x =>
    match x.awaits n with
    | some r =>
      (s.setSlot i (some { x with phase := .failed .storeFailed s.params.holdTime })).append
        (.fetchFailed c x.requester r.page i)
    | none => s
  | none => s

/-- A removed FETCH: its slot FAILED with CHANNEL_OFFLINE, hold timer started, no event (R57). -/
def State.fetchRemoved (s : State) (i : SlotId) : State :=
  match s.slot i with
  | some x =>
    match x.phase, x.work with
    | .fetching, .read _ => s.setSlot i (some { x with phase := .failed .channelOffline s.params.holdTime })
    | _, _ => s
  | none => s

/-- A waiting SYNC slot after buffer b's program succeeded (R66). -/
def Slot.memberProgrammed (b : BufferId) (hold : Micros) (x : Slot) : Slot :=
  match x.phase, x.work with
  | .fetching, .sync m =>
    if inSet m b then
      { x with work := .sync (leaveSet m b), phase := if leaveSet m b = 0 then .ready [] hold else .fetching }
    else x
  | _, _ => x

/-- The failure cause of a slot whose member went HELD (R67). -/
def HoldCause.slotCause : HoldCause → FailureCause
  | .programFailed => .storeFailed
  | .channelOffline => .channelOffline

/-- A waiting SYNC slot after buffer b went HELD (R67). -/
def Slot.memberHeld (b : BufferId) (cause : HoldCause) (hold : Micros) (x : Slot) : Slot :=
  match x.phase, x.work with
  | .fetching, .sync m => if inSet m b then { x with phase := .failed cause.slotCause hold } else x
  | _, _ => x

/-- Every slot changed by f. -/
def State.mapSlots (s : State) (f : Slot → Slot) : State := { s with slots := s.slots.map (Option.map f) }

/-! ### Staging pool: reading (R25, R26, R44) -/

/-- The buffer is OPEN. -/
def Buffer.isOpen (x : Buffer) : Bool :=
  match x.phase with
  | .opened _ _ => true
  | .sealed | .queued | .programming | .held _ => false

/-- The buffer is HELD. -/
def Buffer.isHeld (x : Buffer) : Bool :=
  match x.phase with
  | .held _ => true
  | .opened _ _ | .sealed | .queued | .programming => false

/-- The buffer is live and has the property. -/
def State.bufferHas (s : State) (b : BufferId) (f : Buffer → Bool) : Bool :=
  match s.buffer b with
  | some x => f x
  | none => false

/-- The buffer stages page pg of channel c. -/
def Buffer.isOn (c : ChannelId) (pg : BitVec 16) (x : Buffer) : Bool := x.channel == c && x.page == pg

/-- The live buffers with a property, in open-stamp order (R25). -/
def State.liveWith (s : State) (f : Buffer → Bool) : List BufferId := s.openOrder.filter fun b => s.bufferHas b f

/-- The live buffers of a page, oldest first (R26). -/
def State.liveOn (s : State) (c : ChannelId) (pg : BitVec 16) : List BufferId := s.liveWith (Buffer.isOn c pg)

/-- The byte a live buffer has at a position. -/
def State.stagedAt (s : State) (b : BufferId) (pos : Nat) : Option Byte :=
  match s.buffer b with
  | some x => cellAt x.staged pos
  | none => none

/-- The overlay at one position: the byte of the newest live buffer that tags it (R44). -/
def State.overlayAt (s : State) (c : ChannelId) (pg : BitVec 16) (pos : Nat) : Option Byte :=
  (s.liveOn c pg).foldl (fun acc b => (s.stagedAt b pos).or acc) none

/-- The snapshot overlay of a range (R44): one entry a position, a byte where the mask is set. -/
def State.overlay (s : State) (c : ChannelId) (pg : BitVec 16) (o n : Nat) : List (Option Byte) :=
  (List.range n).map fun i => s.overlayAt c pg (o + i)

/-- The lowest-numbered FREE buffer (R28). -/
def State.freeBuffer (s : State) : Option BufferId := (List.finRange 12).find? fun b => (s.buffer b).isNone

/-! ### Staging pool: single changes -/

/-- A buffer becomes HELD and the read slot table is told (R31, R42, R43, R67). -/
def State.holdBuffer (s : State) (b : BufferId) (cause : HoldCause) : State :=
  (s.modifyBuffer b fun x => { x with phase := .held cause }).mapSlots (Slot.memberHeld b cause s.params.holdTime)

/-- A buffer returns to FREE and leaves the order of openings (R23, R25). -/
def State.releaseBuffer (s : State) (b : BufferId) : State :=
  { s.setBuffer b none with openOrder := s.openOrder.filter (· ≠ b) }

/-! ### Store channels: starting and appending (R75, R78) -/

/-- The channel accepts new operations: IDLE or BUSY (R73). -/
def ChannelState.online : ChannelState → Bool
  | .idle | .busy => true
  | .quiescing | .offline => false

/-- The channel has an operation in progress: BUSY or QUIESCING (R73). -/
def ChannelState.working : ChannelState → Bool
  | .busy | .quiescing => true
  | .idle | .offline => false

/-- The request an operation's command carries; a PROGRAM takes tag set and data from its buffer (R74, R76). -/
def State.requestOf (s : State) : OpKind → StoreRequest
  | .fetch pg o n _ => .fetch pg o n
  | .program pg b =>
    .program pg (match s.buffer b with
      | some x => x.staged
      | none => [])
  | .clear sector _ => .clear sector

/-- The owner of an operation is told of an attempt (R78 step 5). -/
def State.attemptStarted (s : State) (op : Op) (n : BitVec 8) : State :=
  match op.kind with
  | .fetch _ _ _ i => s.slotAttempt i n
  | .program _ b => s.modifyBuffer b fun x => { x with phase := .programming, attempts := op.attempts }
  | .clear _ _ => s

/-- The channel's record after it starts the head operation with this command (R78 steps 1 to 4). -/
def Channel.started (ch : Channel) (op : Op) (rest : List Op) (timeout : Micros) (request : StoreRequest) : Channel where
  state := if ch.state = .quiescing then .quiescing else .busy
  queue := op :: rest
  timer := some timeout
  streak := ch.streak
  number := ch.number + 1
  sent := some ⟨ch.number + 1, request⟩

/-- The channel starts an attempt of its head operation (R78). -/
def State.startHead (s : State) (c : ChannelId) : State :=
  match (s.channel c).queue with
  | [] => s
  | op :: rest =>
    let op' : Op := { op with attempts := op.attempts + 1 }
    (s.setChannel c ((s.channel c).started op' rest (s.params.opTimeout * Config.microsPerMilli) (s.requestOf op.kind))).attemptStarted
      op' ((s.channel c).number + 1)

/-- An operation joins the tail of a channel's queue; an IDLE channel starts it in the same event (R75, R78). -/
def State.appendOp (s : State) (c : ChannelId) (k : OpKind) : State :=
  let s1 := s.setChannel c { s.channel c with queue := (s.channel c).queue ++ [⟨k, 0⟩] }
  if (s.channel c).state = .idle then s1.startHead c else s1

/-- The channel's queue holds fewer than 16 operations (R75). -/
def State.queueHasRoom (s : State) (c : ChannelId) : Bool := (s.channel c).queue.length < Config.channelPlaces

/-! ### The enqueue rule (R37, R38) -/

/-- The first buffer of the channel on the seal list. -/
def State.firstSealed (s : State) (c : ChannelId) : Option BufferId :=
  s.sealList.find? fun b => s.bufferHas b fun x => x.channel == c

/-- The page of buffer b has an older live buffer that is not OPEN (R37). -/
def State.olderBlocks (s : State) (b : BufferId) (x : Buffer) : Bool :=
  (s.openOrder.takeWhile (· ≠ b)).any fun o => s.bufferHas o fun y => y.isOn x.channel x.page && !y.isOpen

/-- The first SEALED buffer of the channel, if the rule moves it (R37). -/
def State.movable (s : State) (c : ChannelId) : Option (BufferId × Buffer) :=
  if !s.restartPending && (s.channel c).state.online && s.queueHasRoom c then
    match s.firstSealed c with
    | some b =>
      match s.buffer b with
      | some x => if s.olderBlocks b x then none else some (b, x)
      | none => none
    | none => none
  else none

/-- A buffer is moved from the seal list into its channel's queue (R37). -/
def State.moveToQueue (s : State) (c : ChannelId) (b : BufferId) (x : Buffer) : State :=
  ({ s.setBuffer b (some { x with phase := .queued, attempts := 0 }) with
      sealList := s.sealList.filter (· ≠ b) }).appendOp c (.program x.page b)

/-- At most n moves, one after the other (R38). -/
def State.enqueueUpTo (c : ChannelId) : Nat → State → State
  | 0, s => s
  | n + 1, s =>
    match s.movable c with
    | some (b, x) => State.enqueueUpTo c n (s.moveToQueue c b x)
    | none => s

/-- The enqueue rule is tried for a channel until its first SEALED buffer cannot be moved (R38; log entry 13). -/
def State.tryEnqueue (s : State) (c : ChannelId) : State := State.enqueueUpTo c s.sealList.length s

/-! ### Sealing (R31) -/

/-- A buffer becomes SEALED at the tail of the seal list (R31, R90). -/
def State.listSealed (s : State) (b : BufferId) (x : Buffer) : State :=
  { s.setBuffer b (some { x with phase := .sealed }) with sealList := s.sealList ++ [b] }

/-- A seal: an OPEN buffer goes to SEALED with an enqueue try, or to HELD when its channel is OFFLINE or QUIESCING. A buffer that
is not OPEN is left (R31). Its two timers are stopped with its leaving OPEN. -/
def State.sealBuffer (s : State) (b : BufferId) : State :=
  match s.buffer b with
  | some x =>
    if x.isOpen then
      if (s.channel x.channel).state.online then (s.listSealed b x).tryEnqueue x.channel
      else s.holdBuffer b .channelOffline
    else s
  | none => s

/-- Several buffers are sealed in the order given (R31). -/
def State.sealAllOf (s : State) (bs : List BufferId) : State := bs.foldl State.sealBuffer s

/-! ### Opening and merging (R28, R29) -/

/-- A buffer opens for a page (R28): stamped, empty, its two timers started. -/
def State.openBuffer (s : State) (b : BufferId) (c : ChannelId) (pg : BitVec 16) : State :=
  { s.setBuffer b (some
      ⟨c, pg, s.openCounter, [], 0, 0, .opened s.params.coalesceIdle (s.params.openLimit * Config.microsPerMilli), 0⟩) with
    openOrder := s.openOrder ++ [b]
    openCounter := s.openCounter + 1 }

/-- The buffer after a WRITE is merged: bytes and tags, writer, grant window when one is named, idle timer again (R29). -/
def Buffer.merged (x : Buffer) (q : ReqId) (grantWindow : Option WindowId) (o : Nat) (bytes : List Byte) (idle : Micros) :
    Buffer :=
  { x with
    staged := setCells x.staged o bytes
    writers := joinSet x.writers q.toNat
    grantWindows := match grantWindow with
      | some w => joinSet x.grantWindows w
      | none => x.grantWindows
    phase := match x.phase with
      | .opened _ limit => .opened idle limit
      | p => p }

/-- A WRITE is merged into a buffer; a full tag set seals it in the same event (R29). -/
def State.mergeInto (s : State) (b : BufferId) (q : ReqId) (grantWindow : Option WindowId) (o : Nat) (bytes : List Byte) :
    State :=
  let s1 := s.modifyBuffer b fun x => x.merged q grantWindow o bytes s.params.coalesceIdle
  if s1.bufferHas b fun x => x.staged.length == Config.pageBytes then s1.sealBuffer b else s1

/-! ### Outcomes of an operation (R41, R42, R79, R81) -/

/-- A PROGRAM succeeded: its buffer is FREE and leaves every wait set (R41, R66). -/
def State.programSucceeded (s : State) (b : BufferId) : State :=
  (s.releaseBuffer b).mapSlots (Slot.memberProgrammed b s.params.holdTime)

/-- A PROGRAM failed finally: its buffer is HELD and PROGRAM_HELD is appended (R42). -/
def State.programFailed (s : State) (c : ChannelId) (pg : BitVec 16) (b : BufferId) : State :=
  (s.holdBuffer b .programFailed).append (.programHeld c pg b)

/-- First byte of a page, and of a sector, in the store of a channel. -/
def pageStart (pg : BitVec 16) : Nat := pg.toNat * Config.pageBytes
def sectorStart (sector : BitVec 12) : Nat := sector.toNat * (Config.sectorPages * Config.pageBytes)

/-- What the part takes the store to hold after an OK completion of this request (R76, R79). -/
def takenAfter (m : Cells) : StoreRequest → Cells
  | .fetch _ _ _ => m
  | .program pg staged => layCells m (pageStart pg) staged
  | .clear sector => fillCells m (sectorStart sector) (Config.sectorPages * Config.pageBytes) 0xFF#8

/-- The owner of an operation is told of its success (R79 step 3). -/
def State.opSucceeded (s : State) (c : ChannelId) (k : OpKind) (n : BitVec 8) (bytes : List Byte) : State :=
  let s1 := s.setStore c (takenAfter (s.store c) (s.requestOf k))
  match k with
  | .fetch _ _ _ i => s1.fetchSucceeded i n bytes
  | .program _ b => (s1.programSucceeded b).countProgram
  | .clear _ _ => s1

/-- The owner of an operation is told of its final failure (R81). -/
def State.opFailed (s : State) (c : ChannelId) (k : OpKind) (n : BitVec 8) : State :=
  match k with
  | .fetch _ _ _ i => s.fetchFailed c i n
  | .program pg b => s.programFailed c pg b
  | .clear sector q => s.append (.clearFailed c q sector .storeFailed)

/-- The owner of an operation removed at an offline entry is told (R88 step 1). -/
def State.opRemoved (c : ChannelId) (s : State) (op : Op) : State :=
  match op.kind with
  | .fetch _ _ _ i => s.fetchRemoved i
  | .program _ b => s.holdBuffer b .channelOffline
  | .clear sector q => s.append (.clearFailed c q sector .channelOffline)

/-- The SEALED buffers of a channel go HELD and leave the seal list (R43, R88 step 2). -/
def State.holdSealed (s : State) (c : ChannelId) : State :=
  let mine := fun b => s.bufferHas b fun x => x.channel == c
  (s.sealList.filter mine).foldl (fun t b => t.holdBuffer b .channelOffline)
    { s with sealList := s.sealList.filter fun b => !mine b }

/-- The offline entry of a channel (R88). -/
def State.offlineEntry (s : State) (c : ChannelId) (cause : OfflineCause) : State :=
  let s1 := (s.channel c).queue.foldl (State.opRemoved c) s
  let s2 := s1.holdSealed c
  (s2.setChannel c { s2.channel c with queue := [], timer := none, state := .offline }).append (.channelOffline c cause)

/-- After an operation has left the queue: the enqueue try, then the next start, IDLE, or the offline entry of a QUIESCING
channel (R79 steps 4 and 5, R81, R87). -/
def State.afterLeaving (s : State) (c : ChannelId) : State :=
  let s1 := s.tryEnqueue c
  match (s1.channel c).state with
  | .busy =>
    if (s1.channel c).queue.isEmpty then s1.setChannel c { s1.channel c with state := .idle }
    else s1.startHead c
  | .quiescing => s1.offlineEntry c .requested
  | .idle | .offline => s1

/-- An OK completion of the head operation (R79). -/
def State.headSucceeded (s : State) (c : ChannelId) (op : Op) (bytes : List Byte) : State :=
  let ch := s.channel c
  ((s.setChannel c { ch with timer := none, streak := 0, queue := ch.queue.tail }).opSucceeded c op.kind ch.number bytes).afterLeaving c

/-- A final failure of the head operation, without what the channel does next (R81). -/
def State.headFailedFinally (s : State) (c : ChannelId) (op : Op) : State :=
  let ch := s.channel c
  (s.setChannel c { ch with queue := ch.queue.tail }).opFailed c op.kind ch.number

/-- What every failed attempt does first: the timer is stopped, the attempt counted, the streak raised (R80). -/
def State.noteFailure (s : State) (c : ChannelId) : State :=
  (s.setChannel c { s.channel c with timer := none, streak := (s.channel c).streak + 1 }).countFailedAttempt

/-- A failed attempt of the head operation (R80). -/
def State.failedAttempt (s : State) (c : ChannelId) (op : Op) : State :=
  if s.params.offlineStreak ≤ (s.channel c).streak + 1 then
    ((s.noteFailure c).headFailedFinally c op).offlineEntry c .streak
  else if s.restartPending then ((s.noteFailure c).headFailedFinally c op).afterLeaving c
  else if op.attempts ≤ s.params.retryLimit then (s.noteFailure c).startHead c
  else ((s.noteFailure c).headFailedFinally c op).afterLeaving c

/-! ### Restart (R94, R150, R152, R153) -/

/-- A channel's queue emptied but for the operation in progress (R94). -/
def Channel.drained (ch : Channel) : Channel :=
  { ch with queue := if ch.state.working then ch.queue.take 1 else [] }

/-- A channel at the completion of a restart (R72, last column). -/
def Channel.restarted (ch : Channel) : Channel :=
  { ch with state := if ch.state = .offline then .offline else .idle, queue := [], timer := none, streak := 0 }

/-- Neither channel is BUSY or QUIESCING (R152). -/
def State.still (s : State) : Bool := !s.sc0.state.working && !s.sc1.state.working

/-- The completion of a restart (R153). -/
def State.completeRestart (s : State) (q : ReqId) : State :=
  ({ s with
      slots := Vector.replicate 8 none
      buffers := Vector.replicate 12 none
      openOrder := []
      sealList := []
      grants := Vector.replicate 24 none
      sc0 := s.sc0.restarted
      sc1 := s.sc1.restarted
      restart := none }).append (.restartDone q)

/-- A pending restart completes once both channels are still (R152). -/
def State.settleRestart (s : State) : State :=
  match s.restart with
  | some q => if s.still then s.completeRestart q else s
  | none => s

/-! ### Grants (R36, R114, R115, R117) -/

/-- The holder of a window's grant. -/
def State.holderOf (s : State) (w : WindowId) : Option ReqId := (s.grantOf w).map Grant.holder

/-- The requester holds the window's grant and its inactivity timer starts (R112, R114). -/
def State.startGrant (s : State) (w : WindowId) (q : ReqId) : State :=
  s.setGrant w (some ⟨q, s.params.grantLife * Config.microsPerMilli⟩)

/-- The holder used its grant: the inactivity timer starts again (R115). -/
def State.useGrant (s : State) (w : WindowId) : State :=
  match s.grantOf w with
  | some g => s.startGrant w g.holder
  | none => s

/-- The OPEN buffers written under a window's grant, in open-stamp order (R36). -/
def State.openUnder (s : State) (w : WindowId) : List BufferId := s.liveWith fun x => x.isOpen && inSet x.grantWindows w

/-- Every live buffer loses a window from its grant windows set (R36 step 2). -/
def State.forgetGrant (s : State) (w : WindowId) : State :=
  { s with buffers := s.buffers.map (Option.map fun x => { x with grantWindows := leaveSet x.grantWindows w }) }

/-- A grant ends, but for its event record (R117 steps 1 and 2, R36). The buffers sealed are those of `openUnder`. -/
def State.endGrant (s : State) (w : WindowId) : State :=
  ((s.setGrant w none).sealAllOf (s.openUnder w)).forgetGrant w

/-- The grant of a held index ends by management, with GRANT_REVOKED (R117, R120, R121). -/
def State.revokeGrant (s : State) (w : WindowId) (cause : RevokeCause) : State :=
  match s.holderOf w with
  | some q => (s.endGrant w).append (.grantRevoked q w cause)
  | none => s

end Sys2Proof.Machine
end

