-- ==== Sys2Proof/Machine/Decoder.lean ====
section
/-! DEFINITION. The taking of a frame (R4, R131) and the checks the request decoder makes on it (R2, R5 to R17), in their
order. -/

namespace Sys2Proof.Machine

/-- What a step of this machine answers. -/
abbrev Result := Host.Outcome State Fault Refusal

/-- What the service of a taken frame leaves: the state, and the response. -/
abbrev Served := State × Body

/-! ### Taking (R131) -/

/-- The decoder may take a frame of the port: the part is out of reset, the port UP, an outbound place free (R131, R155). -/
def State.canTake (s : State) (p : PortId) : Bool := !s.resetAsserted && (s.port p).hasPlace

/-- Steps 1 and 2 of a taking: a place is reserved, the head frame leaves, its credit is owed, the taking is counted. -/
def State.beginTaking (s : State) (p : PortId) : State :=
  let q := s.port p
  s.setPort p { q with
    reserved := 1
    inbound := q.inbound.tail
    owed := q.owed + 1
    counters := { q.counters with framesTaken := bump q.counters.framesTaken } }

/-- Steps 4 and 5: the response fills the reserved place, a REFUSE is counted, an IDLE transmitter starts. -/
def State.respond (s : State) (p : PortId) (f : List Byte) (body : Body) : State :=
  let q := s.port p
  s.setPort p ({ q with reserved := 0, counters := q.counters.countBody body }.place ⟨frameSource f, frameTag f, 0, body⟩)

/-- The state after the head frame f of the port is taken and served; a notice may be placed behind the response (R134). -/
def afterTaking (p : PortId) (f : List Byte) (served : Served) : State :=
  (served.1.respond p f served.2).placeNotice

/-- The decoder takes the head frame of a port, when it may and when that frame is the command's (R131; log entries 4, 5).
Otherwise no such event happens and the state stays. -/
def State.takeHead (s : State) (p : PortId) (command : Instr) (serve : List Byte → State → Served) : Result :=
  match (s.port p).inbound with
  | f :: _ =>
    if s.canTake p && takingCommand p f == command then .next (afterTaking p f (serve f (s.beginTaking p)))
    else .next s
  | [] => .next s

/-! ### Refusals -/

/-- A refusal that changes nothing in the serving blocks. -/
def refuse (r : Reason) (s : State) : Served := (s, .refuse r)

/-- REFUSE BUSY, counted part-wide (R163). -/
def refuseBusy (s : State) : Served := (s.countBusy, .refuse .busy)

/-! ### Windows (R2, R3) -/

/-- The entry's link range contains the link page, and its requester set the requester (R2). -/
def WindowEntry.matches (e : WindowEntry) (q : ReqId) (linkPage : Nat) : Bool :=
  e.valid && inSet e.requesters q.toNat && e.linkBase.toNat ≤ linkPage && linkPage < e.linkBase.toNat + e.pageCount

/-- The matching entry's index: at most one entry can match (R2, R19). -/
def State.matchWindow (s : State) (q : ReqId) (linkPage : Nat) : Option WindowId :=
  (List.finRange 24).find? fun w => (s.window w).matches q linkPage

/-- The store page the entry translates a link page to (R2). -/
def WindowEntry.translate (e : WindowEntry) (linkPage : Nat) : BitVec 16 :=
  BitVec.ofNat 16 (e.storeBase.toNat + (linkPage - e.linkBase.toNat))

/-- The sector of a store page (R14). -/
def sectorOf (pg : BitVec 16) : BitVec 12 := BitVec.ofNat 12 (pg.toNat / Config.sectorPages)

/-- The whole sector lies inside the entry's store range (R14). -/
def WindowEntry.coversSector (e : WindowEntry) (sector : BitVec 12) : Bool :=
  e.storeBase.toNat ≤ sector.toNat * Config.sectorPages
    && sector.toNat * Config.sectorPages + (Config.sectorPages - 1) < e.storeBase.toNat + e.pageCount

/-! ### The check order (R5, R7 to R16) -/

/-- Checks 1 and 2 of a data request (R7, R8), then its service for the requester. -/
def withRequest (f : List Byte) (s : State) (serve : ReqId → Served) : Served :=
  if !frameWellFormed f then refuse .badFrame s
  else if s.restartPending then refuse .notReady s
  else serve (frameRequester f)

/-- Checks 1 to 3 of a data request with an address (R10), then its service for the requester through the matched window. -/
def withWindow (f : List Byte) (s : State) (serve : ReqId → WindowId → Served) : Served :=
  withRequest f s fun q =>
    match s.matchWindow q (frameLinkPage f) with
    | some w => serve q w
    | none => refuse .noWindow s

/-- Check 6 passes (R15). -/
def State.grantFits (s : State) (q : ReqId) (w : WindowId) : Bool :=
  !(s.window w).grantRequired || s.holderOf w == some q

/-- Check 7 passes (R16). -/
def State.windowOnline (s : State) (w : WindowId) : Bool := (s.channel (s.window w).channel).state.online

/-- The decoder's one addition to an accepted WRITE or CLEAR through a grant-required window: the grant is used (R5, R115). -/
def State.noteUse (w : WindowId) (served : Served) : Served :=
  match served.2 with
  | .ack _ => (if (served.1.window w).grantRequired then served.1.useGrant w else served.1, served.2)
  | .data _ | .defer _ | .refuse _ | .mgmtReply _ _ _ | .notice _ _ => served

end Sys2Proof.Machine
end

