-- ==== Sys2Proof/Machine/Operands.lean ====
section
/-! DEFINITION. Management operands as they are read and replies as they are formed (R171, R172, R173). A field value that
has no meaning in its encoding reads as `none`, which the operation answers BAD_OPERAND (R171). -/

namespace Sys2Proof.Machine

/-! ### Fields of an operand -/

/-- An index, buffer number or slot number below n. -/
def idOfCode (n : Nat) (b : Byte) : Option (Fin n) := if h : b.toNat < n then some ⟨b.toNat, h⟩ else none

/-- A channel code: 0 SC0, 1 SC1. -/
def channelOfCode (b : Byte) : Option ChannelId :=
  match b.toNat with
  | 0 => some .sc0
  | 1 => some .sc1
  | _ => none

/-- A port code: 0 LP0, 1 LP1. -/
def portOfCode (b : Byte) : Option PortId :=
  match b.toNat with
  | 0 => some .lp0
  | 1 => some .lp1
  | _ => none

/-- A yes or no byte: 0 no, 1 yes. -/
def flagOfCode (b : Byte) : Option Bool :=
  match b.toNat with
  | 0 => some false
  | 1 => some true
  | _ => none

/-- A rights byte: bits 0, 1, 2 for READ, WRITE, CLEAR, at least one set and no other (R171). -/
def rightsOfCode (b : Byte) : Option Rights :=
  if 1 ≤ b.toNat && b.toNat ≤ 7 then some ⟨b.getLsbD 0, b.getLsbD 1, b.getLsbD 2⟩ else none

/-- The operand of WINDOW_LOAD, bytes 0 and 2..16 of the window entry (R172), judged by R18. -/
def windowLoadOperand (op : List Byte) : Option (WindowId × WindowEntry) :=
  match idOfCode 24 (byteAt op 0), channelOfCode (byteAt op 13), rightsOfCode (byteAt op 14), flagOfCode (byteAt op 15) with
  | some w, some c, some r, some g =>
    let requesters := BitVec.ofNat 32 (fieldAt op 1 4)
    let linkBase := fieldAt op 5 3
    let pageCount := fieldAt op 8 3
    let storeBase := fieldAt op 11 2
    if requesters == 0 || inSet requesters 0
        || pageCount == 0 || Config.storePages < pageCount
        || Config.linkPages < linkBase + pageCount
        || Config.storePages < storeBase + pageCount
        || (g && !r.write && !r.clear) then none
    else some (w, ⟨true, requesters, BitVec.ofNat 24 linkBase, pageCount, c, BitVec.ofNat 16 storeBase, r, g⟩)
  | _, _, _, _ => none

/-! ### Parameters (R145, R146, section 10.2) -/

/-- The nine parameters, in identifier order. -/
inductive ParamId where
  | holdTime | coalesceIdle | openLimit | grantLife | opTimeout | retryLimit | offlineStreak | slotsPerReq | noticeTarget
  deriving DecidableEq, Repr

/-- The parameter of an identifier. -/
def paramOfCode (b : Byte) : Option ParamId :=
  match b.toNat with
  | 1 => some .holdTime
  | 2 => some .coalesceIdle
  | 3 => some .openLimit
  | 4 => some .grantLife
  | 5 => some .opTimeout
  | 6 => some .retryLimit
  | 7 => some .offlineStreak
  | 8 => some .slotsPerReq
  | 9 => some .noticeTarget
  | _ => none

def portCode : PortId → Nat
  | .lp0 => 0
  | .lp1 => 1

def channelCode : ChannelId → Nat
  | .sc0 => 0
  | .sc1 => 1

/-- NOTICE_TARGET as it is sent: requester in the high byte, port in the low byte, 0 for none. -/
def noticeTargetCode : Option (ReqId × PortId) → Nat
  | none => 0
  | some (q, p) => q.toNat * 256 + portCode p

/-- NOTICE_TARGET as it is read: `none` is out of range, `some none` names no target (R146). -/
def noticeTargetOfCode (v : Nat) : Option (Option (ReqId × PortId)) :=
  if v / 256 = 0 then some none
  else if 31 < v / 256 then none
  else (portOfCode (BitVec.ofNat 8 (v % 256))).map fun p => some (BitVec.ofNat 5 (v / 256), p)

/-- A parameter's value as it is sent. -/
def Params.code (ps : Params) : ParamId → Nat
  | .holdTime => ps.holdTime
  | .coalesceIdle => ps.coalesceIdle
  | .openLimit => ps.openLimit
  | .grantLife => ps.grantLife
  | .opTimeout => ps.opTimeout
  | .retryLimit => ps.retryLimit
  | .offlineStreak => ps.offlineStreak
  | .slotsPerReq => ps.slotsPerReq
  | .noticeTarget => noticeTargetCode ps.noticeTarget

/-- A value from lo to hi, or none (R145). -/
def inRange (lo hi v : Nat) : Option Nat := if lo ≤ v && v ≤ hi then some v else none

/-- The parameters with one set to a value; `none` when the value is outside the parameter's range (R145, R146). -/
def Params.set (ps : Params) (id : ParamId) (v : Nat) : Option Params :=
  match id with
  | .holdTime => (inRange 100 65535 v).map fun x => { ps with holdTime := x }
  | .coalesceIdle => (inRange 50 65535 v).map fun x => { ps with coalesceIdle := x }
  | .openLimit => (inRange 1 255 v).map fun x => { ps with openLimit := x }
  | .grantLife => (inRange 1 255 v).map fun x => { ps with grantLife := x }
  | .opTimeout => (inRange 1 255 v).map fun x => { ps with opTimeout := x }
  | .retryLimit => (inRange 0 7 v).map fun x => { ps with retryLimit := x }
  | .offlineStreak => (inRange 1 15 v).map fun x => { ps with offlineStreak := x }
  | .slotsPerReq => (inRange 1 8 v).map fun x => { ps with slotsPerReq := x }
  | .noticeTarget => (noticeTargetOfCode v).map fun x => { ps with noticeTarget := x }

/-- The operand of PARAM_READ's reply: the nine values in identifier order. -/
def Params.bytes (ps : Params) : List Byte :=
  [ParamId.holdTime, .coalesceIdle, .openLimit, .grantLife, .opTimeout, .retryLimit, .offlineStreak, .slotsPerReq,
    .noticeTarget].flatMap fun id => bytesOf 2 (ps.code id)

/-! ### Codes of states and causes (R173) -/

/-- 1 for yes, 0 for no. -/
def flagCode (b : Bool) : Nat := if b then 1 else 0

def Rights.code (r : Rights) : Nat := flagCode r.read + 2 * flagCode r.write + 4 * flagCode r.clear

/-- Buffer state codes. -/
def bufferStateCode : Option Buffer → Nat
  | none => 0
  | some x =>
    match x.phase with
    | .opened _ _ => 1
    | .sealed => 2
    | .queued => 3
    | .programming => 4
    | .held _ => 5

/-- The state of a slot in the order of the status record: FREE, FETCHING, READY, FAILED. -/
def slotStateCode : Option Slot → Nat
  | none => 0
  | some x =>
    match x.phase with
    | .fetching => 1
    | .ready _ _ => 2
    | .failed _ _ => 3

def ChannelState.code : ChannelState → Nat
  | .idle => 0
  | .busy => 1
  | .quiescing => 2
  | .offline => 3

/-- Cause codes. -/
def FailureCause.code : FailureCause → Nat
  | .storeFailed => 1
  | .channelOffline => 2
def HoldCause.code : HoldCause → Nat
  | .channelOffline => 2
  | .programFailed => 3
def OfflineCause.code : OfflineCause → Nat
  | .requested => 4
  | .streak => 5
def RevokeCause.code : RevokeCause → Nat
  | .revoke => 6
  | .windowLoad => 7
  | .windowClear => 8

/-! ### Records in replies (R172) -/

/-- The window entry as WINDOW_READ returns it. -/
def windowEntryBytes (w : WindowId) (e : WindowEntry) : List Byte :=
  bytesOf 1 w ++ bytesOf 1 (flagCode e.valid) ++ bytesOf 4 e.requesters.toNat ++ bytesOf 3 e.linkBase.toNat
    ++ bytesOf 3 e.pageCount ++ bytesOf 2 e.storeBase.toNat ++ bytesOf 1 (channelCode e.channel)
    ++ bytesOf 1 e.rights.code ++ bytesOf 1 (flagCode e.grantRequired)

/-- Hold cause field of the buffer summary: 0 but for a HELD buffer. -/
def holdCauseCode : BufferPhase → Nat
  | .held cause => cause.code
  | .opened _ _ | .sealed | .queued | .programming => 0

/-- The buffer summary (R99). -/
def bufferSummary (b : BufferId) (o : Option Buffer) : List Byte :=
  bytesOf 1 b ++ bytesOf 1 (bufferStateCode o) ++
  match o with
  | none => bytesOf 1 0xFF ++ bytesOf 2 0 ++ bytesOf 2 0 ++ bytesOf 4 0 ++ bytesOf 1 0 ++ bytesOf 1 0
  | some x => bytesOf 1 (channelCode x.channel) ++ bytesOf 2 x.page.toNat ++ bytesOf 2 x.staged.length
      ++ bytesOf 4 x.writers.toNat ++ bytesOf 1 (holdCauseCode x.phase) ++ bytesOf 1 x.attempts

/-- The number of buffers in a state. -/
def State.countBuffers (s : State) (code : Nat) : Nat := s.buffers.toList.countP fun o => bufferStateCode o == code

/-- The number of slots in a state. -/
def State.countSlots (s : State) (code : Nat) : Nat := s.slots.toList.countP fun o => slotStateCode o == code

/-- The number of held grant records (R110). -/
def State.countGrants (s : State) : Nat := s.grants.toList.countP Option.isSome

/-- The status record (R149). -/
def State.statusRecord (s : State) : List Byte :=
  ([flagCode s.restartPending, flagCode s.lp0.up, flagCode s.lp1.up, s.sc0.state.code, s.sc1.state.code,
    s.sc0.queue.length, s.sc1.queue.length]
    ++ (List.range 6).map s.countBuffers ++ (List.range 4).map s.countSlots
    ++ [s.countGrants, s.log.length]).flatMap (bytesOf 1)
  ++ bytesOf 2 s.overflow.toNat ++ bytesOf 4 s.timeBase.toNat

/-- The optional fields of an event record (R157). -/
structure EventFields where
  kind : Nat
  port : Option Nat
  channel : Option Nat
  requester : Option Nat
  place : Option Nat
  number : Option Nat
  cause : Option Nat
  deriving DecidableEq, Repr

/-- The code of each kind (R173) and the fields it fills (R158). -/
def Event.fields : Event → EventFields
  | .linkUp p => ⟨1, some (portCode p), none, none, none, none, none⟩
  | .linkDown p => ⟨2, some (portCode p), none, none, none, none, none⟩
  | .frameOverrun p => ⟨3, some (portCode p), none, none, none, none, none⟩
  | .readAbandoned q t i => ⟨4, none, none, some q.toNat, some t.toNat, some i, none⟩
  | .fetchFailed c q pg i => ⟨5, none, some (channelCode c), some q.toNat, some pg.toNat, some i, none⟩
  | .programHeld c pg b => ⟨6, none, some (channelCode c), none, some pg.toNat, some b, none⟩
  | .clearFailed c q x k => ⟨7, none, some (channelCode c), some q.toNat, some x.toNat, none, some k.code⟩
  | .lateCompletion c => ⟨8, none, some (channelCode c), none, none, none, none⟩
  | .channelOffline c k => ⟨9, none, some (channelCode c), none, none, none, some k.code⟩
  | .channelOnline c => ⟨10, none, some (channelCode c), none, none, none, none⟩
  | .bufferDiscarded c q pg b k => ⟨11, none, some (channelCode c), some q.toNat, some pg.toNat, some b, some k.code⟩
  | .grantExpired q w => ⟨12, none, none, some q.toNat, none, some w, none⟩
  | .grantRevoked q w k => ⟨13, none, none, some q.toNat, none, some w, some k.code⟩
  | .restartDone q => ⟨14, none, none, some q.toNat, none, none, none⟩

/-- The presence marks (R172). -/
def EventFields.marks (e : EventFields) : Nat :=
  flagCode e.port.isSome + 2 * flagCode e.channel.isSome + 4 * flagCode e.requester.isSome + 8 * flagCode e.place.isSome
    + 16 * flagCode e.number.isSome + 32 * flagCode e.cause.isSome

/-- An event record as EVENTS_READ returns it. -/
def EventRecord.bytes (r : EventRecord) : List Byte :=
  let e := r.event.fields
  bytesOf 2 r.sequence.toNat ++ bytesOf 1 e.kind ++ bytesOf 1 e.marks ++ bytesOf 4 r.time.toNat
    ++ bytesOf 1 (e.port.getD 0) ++ bytesOf 1 (e.channel.getD 0) ++ bytesOf 1 (e.requester.getD 0)
    ++ bytesOf 1 (e.number.getD 0) ++ bytesOf 2 (e.place.getD 0) ++ bytesOf 1 (e.cause.getD 0) ++ bytesOf 1 0

/-- The counters of a port in the order of R138 (R164). -/
def PortCounters.bytes (k : PortCounters) : List Byte :=
  [k.framesTaken, k.crcDrops, k.misrouted, k.overruns, k.format, k.access, k.decode, k.grant, k.channel, k.resource,
    k.result].flatMap fun n => bytesOf 4 n.toNat

/-- The part-wide counters in the order of R163 (R164). -/
def PartCounters.bytes (k : PartCounters) : List Byte :=
  [k.overlayHits, k.readsDeferred, k.readsAbandoned, k.programsCompleted, k.attemptsFailed, k.timeouts,
    k.lateCompletions, k.busyRefusals].flatMap fun n => bytesOf 4 n.toNat

end Sys2Proof.Machine
end

