-- ==== Sys2Proof/Machine/Management.lean ====
section
/-! DEFINITION. The management operations (chapter 8): the authority check of the decoder (R9), the checks of the management
unit (R141, R142) and each operation's own rule. -/

namespace Sys2Proof.Machine

/-- What an operation's own rule answers: the state, the result, and the operand of the reply. -/
abbrev Answer := State × MgmtResult × List Byte

/-- OK with a reply operand. -/
def answerOk (s : State) (operand : List Byte) : Answer := (s, .ok, operand)

/-- A result other than OK: no reply operand, nothing changed (R141). -/
def decline (s : State) (r : MgmtResult) : Answer := (s, r, [])

/-- The operation code of a MGMT frame, and its operand (R170). -/
def frameOpCode (f : List Byte) : Byte := byteAt (framePayload f) 0
def frameOperand (f : List Byte) : List Byte := (framePayload f).drop 1

/-- Checks 1 of R7 and the authority check of R9, then the management unit's answer, placed as a MGMT_REPLY that echoes the
operation code (R141). -/
def withManager (f : List Byte) (s : State) (unit : ReqId → Answer) : Served :=
  if !frameWellFormed f then refuse .badFrame s
  else if !inSet s.managers (frameRequester f).toNat then refuse .notManager s
  else
    let a := unit (frameRequester f)
    (a.1, .mgmtReply (frameOpCode f) a.2.1 a.2.2)

/-- Checks 2 and 3 of R141 around an operation's own rule: NOT_READY while restart is pending unless the operation is served then
(R142), BAD_OPERAND when the operand has another size. -/
def serveMgmt (size : Nat) (duringRestart : Bool) (rule : ReqId → List Byte → State → Answer) (f : List Byte) (s : State) :
    Served :=
  withManager f s fun q =>
    if s.restartPending && !duringRestart then decline s .notReady
    else if (frameOperand f).length != size then decline s .badOperand
    else rule q (frameOperand f) s

/-- UNKNOWN_MGMT_OPERATION: the code names no operation, BAD_OPERAND also while restart is pending (R141, R142). -/
def serveUnknownOperation (f : List Byte) (s : State) : Served := withManager f s fun _ => decline s .badOperand

def execUnknownMgmtOperation (p : PortId) (s : State) : Result :=
  s.takeHead p (.unknownMgmtOperation p) serveUnknownOperation

/-! ### Windows (R18 to R22) and grants (R120) -/

/-- Two entries share a requester and a link page (R19). -/
def WindowEntry.overlaps (a b : WindowEntry) : Bool :=
  a.requesters &&& b.requesters != 0
    && a.linkBase.toNat < b.linkBase.toNat + b.pageCount && b.linkBase.toNat < a.linkBase.toNat + a.pageCount

/-- Another valid entry overlaps the new one; the entry at the index itself is not compared (R19). -/
def State.loadOverlaps (s : State) (w : WindowId) (e : WindowEntry) : Bool :=
  (List.finRange 24).any fun v => v != w && (s.window v).valid && (s.window v).overlaps e

/-- WINDOW_LOAD (R18, R19, R121). -/
def windowLoadRule (_q : ReqId) (op : List Byte) (s : State) : Answer :=
  match windowLoadOperand op with
  | none => decline s .badOperand
  | some (w, e) =>
    if s.loadOverlaps w e then decline s .overlap
    else answerOk ((s.setWindow w e).revokeGrant w .windowLoad) []

def execWindowLoad (p : PortId) (s : State) : Result := s.takeHead p (.windowLoad p) (serveMgmt 16 false windowLoadRule)

/-- WINDOW_CLEAR (R21, R121). -/
def windowClearRule (_q : ReqId) (op : List Byte) (s : State) : Answer :=
  match idOfCode 24 (byteAt op 0) with
  | none => decline s .badOperand
  | some w =>
    if (s.window w).valid then
      answerOk ((s.setWindow w { s.window w with valid := false }).revokeGrant w .windowClear) []
    else answerOk s []

def execWindowClear (p : PortId) (s : State) : Result := s.takeHead p (.windowClear p) (serveMgmt 1 false windowClearRule)

/-- WINDOW_READ (R22). -/
def windowReadRule (_q : ReqId) (op : List Byte) (s : State) : Answer :=
  match idOfCode 24 (byteAt op 0) with
  | none => decline s .badOperand
  | some w => answerOk s (windowEntryBytes w (s.window w))

def execWindowRead (p : PortId) (s : State) : Result := s.takeHead p (.windowRead p) (serveMgmt 1 false windowReadRule)

/-- GRANT_REVOKE (R120): the former holder, 0 for none, and the number of buffers sealed. -/
def grantRevokeRule (_q : ReqId) (op : List Byte) (s : State) : Answer :=
  match idOfCode 24 (byteAt op 0) with
  | none => decline s .badOperand
  | some w =>
    match s.holderOf w with
    | some h => answerOk (s.revokeGrant w .revoke) (bytesOf 1 h.toNat ++ bytesOf 1 (s.openUnder w).length)
    | none => answerOk s (bytesOf 1 0 ++ bytesOf 1 0)

def execGrantRevoke (p : PortId) (s : State) : Result := s.takeHead p (.grantRevoke p) (serveMgmt 1 false grantRevokeRule)

/-! ### Held buffers and recovery (R99 to R106) -/

/-- BUFFER_READ (R99). -/
def bufferReadRule (_q : ReqId) (op : List Byte) (s : State) : Answer :=
  match idOfCode 12 (byteAt op 0) with
  | none => decline s .badOperand
  | some b => answerOk s (bufferSummary b (s.buffer b))

def execBufferRead (p : PortId) (s : State) : Result := s.takeHead p (.bufferRead p) (serveMgmt 1 false bufferReadRule)

/-- A list with b put immediately before the element m. -/
def insertBefore (b m : BufferId) : List BufferId → List BufferId
  | [] => [b]
  | x :: t => if x = m then b :: x :: t else x :: insertBefore b m t

/-- The buffer is SEALED. -/
def Buffer.isSealed (x : Buffer) : Bool :=
  match x.phase with
  | .sealed => true
  | .opened _ _ | .queued | .programming | .held _ => false

/-- The newer live buffer of b's page that is SEALED (R101 step 2). -/
def State.newerSealed (s : State) (b : BufferId) (x : Buffer) : Option BufferId :=
  ((s.openOrder.dropWhile (· ≠ b)).drop 1).find? fun o => s.bufferHas o fun y => y.isOn x.channel x.page && y.isSealed

/-- The seal list with the retried buffer in its place (R101 step 2). -/
def State.sealListWith (s : State) (b : BufferId) (x : Buffer) : List BufferId :=
  match s.newerSealed b x with
  | some m => insertBefore b m s.sealList
  | none => s.sealList ++ [b]

/-- A HELD buffer goes back to SEALED and the enqueue rule is tried (R101). -/
def State.retryBuffer (s : State) (b : BufferId) (x : Buffer) : State :=
  { s.setBuffer b (some { x with phase := .sealed, attempts := 0 }) with
    sealList := s.sealListWith b x }.tryEnqueue x.channel

/-- BUFFER_RETRY (R100, R101): the reply carries the buffer's state after the event. -/
def bufferRetryRule (_q : ReqId) (op : List Byte) (s : State) : Answer :=
  match idOfCode 12 (byteAt op 0) with
  | none => decline s .badOperand
  | some b =>
    match s.buffer b with
    | none => decline s .wrongState
    | some x =>
      if x.isHeld && (s.channel x.channel).state.online then
        answerOk (s.retryBuffer b x) (bytesOf 1 (bufferStateCode ((s.retryBuffer b x).buffer b)))
      else decline s .wrongState

def execBufferRetry (p : PortId) (s : State) : Result := s.takeHead p (.bufferRetry p) (serveMgmt 1 false bufferRetryRule)

/-- BUFFER_DISCARD (R103, R104). The read slot table, told of the discard, changes no slot. -/
def bufferDiscardRule (q : ReqId) (op : List Byte) (s : State) : Answer :=
  match idOfCode 12 (byteAt op 0) with
  | none => decline s .badOperand
  | some b =>
    match s.buffer b with
    | none => decline s .wrongState
    | some x =>
      match x.phase with
      | .held cause =>
        answerOk (((s.append (.bufferDiscarded x.channel q x.page b cause)).releaseBuffer b).tryEnqueue x.channel) []
      | .opened _ _ | .sealed | .queued | .programming => decline s .wrongState

def execBufferDiscard (p : PortId) (s : State) : Result :=
  s.takeHead p (.bufferDiscard p) (serveMgmt 1 false bufferDiscardRule)

/-- SEAL_ALL (R106). -/
def sealAllRule (_q : ReqId) (_op : List Byte) (s : State) : Answer :=
  answerOk (s.sealAllOf (s.liveWith Buffer.isOpen)) (bytesOf 1 (s.liveWith Buffer.isOpen).length)

def execSealAll (p : PortId) (s : State) : Result := s.takeHead p (.sealAll p) (serveMgmt 0 false sealAllRule)

/-! ### Channels (R86, R90) -/

/-- The effect of CHANNEL_OFFLINE on the channel (R86). -/
def State.requestOffline (s : State) (c : ChannelId) : State :=
  match (s.channel c).state with
  | .idle => s.offlineEntry c .requested
  | .busy => s.setChannel c { s.channel c with state := .quiescing }
  | .quiescing | .offline => s

/-- CHANNEL_OFFLINE: the reply carries the channel's state after the operation. -/
def channelOfflineRule (_q : ReqId) (op : List Byte) (s : State) : Answer :=
  match channelOfCode (byteAt op 0) with
  | none => decline s .badOperand
  | some c => answerOk (s.requestOffline c) (bytesOf 1 ((s.requestOffline c).channel c).state.code)

def execChannelOffline (p : PortId) (s : State) : Result :=
  s.takeHead p (.channelOffline p) (serveMgmt 1 false channelOfflineRule)

/-- The buffer is HELD with cause CHANNEL_OFFLINE. -/
def Buffer.heldByOffline (x : Buffer) : Bool :=
  match x.phase with
  | .held .channelOffline => true
  | .held .programFailed | .opened _ _ | .sealed | .queued | .programming => false

/-- A buffer goes back to SEALED at the tail of the seal list, attempts 0 (R90 step 2). -/
def State.returnSealed (s : State) (b : BufferId) : State :=
  match s.buffer b with
  | some x => s.listSealed b { x with attempts := 0 }
  | none => s

/-- An OFFLINE channel comes online (R90). -/
def State.bringOnline (s : State) (c : ChannelId) : State :=
  let s1 := s.setChannel c { s.channel c with streak := 0, state := .idle }
  let back := s.liveWith fun x => x.channel == c && x.heldByOffline
  ((back.foldl State.returnSealed s1).tryEnqueue c).append (.channelOnline c)

/-- CHANNEL_ONLINE (R90). -/
def channelOnlineRule (_q : ReqId) (op : List Byte) (s : State) : Answer :=
  match channelOfCode (byteAt op 0) with
  | none => decline s .badOperand
  | some c =>
    match (s.channel c).state with
    | .offline => answerOk (s.bringOnline c) []
    | .idle | .busy | .quiescing => decline s .wrongState

def execChannelOnline (p : PortId) (s : State) : Result := s.takeHead p (.channelOnline p) (serveMgmt 1 false channelOnlineRule)

/-! ### Events and counters (R160, R164, R165) -/

/-- The log after its n oldest records are removed; left empty, it clears the overflow count and arms the notice (R160). -/
def State.removeRecords (s : State) (n : Nat) : State :=
  if (s.log.drop n).isEmpty then { s with log := [], overflow := 0, notice := .armed } else { s with log := s.log.drop n }

/-- EVENTS_READ (R160): overflow count before the event, depth left, number of records, the records oldest first. -/
def eventsReadRule (_q : ReqId) (op : List Byte) (s : State) : Answer :=
  let n := (byteAt op 0).toNat
  if 1 ≤ n && n ≤ 4 then
    answerOk (s.removeRecords n) (bytesOf 2 s.overflow.toNat ++ bytesOf 1 (s.log.drop n).length
      ++ bytesOf 1 (s.log.take n).length ++ (s.log.take n).flatMap EventRecord.bytes)
  else decline s .badOperand

def execEventsRead (p : PortId) (s : State) : Result := s.takeHead p (.eventsRead p) (serveMgmt 1 true eventsReadRule)

/-- COUNTERS_READ (R164): selector 0 LP0, 1 LP1, 2 PART. -/
def countersReadRule (_q : ReqId) (op : List Byte) (s : State) : Answer :=
  match (byteAt op 0).toNat with
  | 0 => answerOk s s.lp0.counters.bytes
  | 1 => answerOk s s.lp1.counters.bytes
  | 2 => answerOk s s.counters.bytes
  | _ => decline s .badOperand

def execCountersRead (p : PortId) (s : State) : Result := s.takeHead p (.countersRead p) (serveMgmt 1 false countersReadRule)

/-- COUNTERS_CLEAR (R165). -/
def countersClearRule (_q : ReqId) (_op : List Byte) (s : State) : Answer :=
  answerOk { s with
    lp0 := { s.lp0 with counters := PortCounters.zero }
    lp1 := { s.lp1 with counters := PortCounters.zero }
    counters := PartCounters.zero } []

def execCountersClear (p : PortId) (s : State) : Result := s.takeHead p (.countersClear p) (serveMgmt 0 false countersClearRule)

/-! ### Parameters and management set (R143, R146, R147) -/

/-- PARAM_SET (R146): the reply carries the previous value; a changed NOTICE_TARGET reaches the notice state (R161). -/
def paramSetRule (_q : ReqId) (op : List Byte) (s : State) : Answer :=
  match paramOfCode (byteAt op 0) with
  | none => decline s .badOperand
  | some id =>
    match s.params.set id (fieldAt op 1 2) with
    | none => decline s .badOperand
    | some ps =>
      let s1 := { s with params := ps }
      answerOk (if ps.noticeTarget = s.params.noticeTarget then s1 else s1.retarget) (bytesOf 2 (s.params.code id))

def execParamSet (p : PortId) (s : State) : Result := s.takeHead p (.paramSet p) (serveMgmt 3 false paramSetRule)

/-- PARAM_READ (R147). -/
def paramReadRule (_q : ReqId) (_op : List Byte) (s : State) : Answer := answerOk s s.params.bytes

def execParamRead (p : PortId) (s : State) : Result := s.takeHead p (.paramRead p) (serveMgmt 0 false paramReadRule)

/-- MGMT_SET_WRITE (R143): the reply carries the previous set. -/
def mgmtSetWriteRule (_q : ReqId) (op : List Byte) (s : State) : Answer :=
  let m : ReqSet := BitVec.ofNat 32 (fieldAt op 0 4)
  if inSet m 0 then decline s .badOperand
  else if m == 0 then decline s .emptySet
  else answerOk { s with managers := m } (bytesOf 4 s.managers.toNat)

def execMgmtSetWrite (p : PortId) (s : State) : Result := s.takeHead p (.mgmtSetWrite p) (serveMgmt 4 false mgmtSetWriteRule)

/-! ### Status and restart (R149, R150) -/

/-- STATUS_READ (R149). -/
def statusReadRule (_q : ReqId) (_op : List Byte) (s : State) : Answer := answerOk s s.statusRecord

def execStatusRead (p : PortId) (s : State) : Result := s.takeHead p (.statusRead p) (serveMgmt 0 true statusReadRule)

/-- The taking of a RESTART while none is pending (R150). -/
def State.takeRestart (s : State) (q : ReqId) : State :=
  { s with restart := some q, sc0 := s.sc0.drained, sc1 := s.sc1.drained }.settleRestart

/-- RESTART (R150): the reply carries restart pending at the end of the event. -/
def restartRule (q : ReqId) (_op : List Byte) (s : State) : Answer :=
  match s.restart with
  | some _ => answerOk s (bytesOf 1 1)
  | none => answerOk (s.takeRestart q) (bytesOf 1 (flagCode (s.takeRestart q).restartPending))

def execRestart (p : PortId) (s : State) : Result := s.takeHead p (.restart p) (serveMgmt 0 true restartRule)

end Sys2Proof.Machine
end

