-- ==== Sys2Proof/Machine/Requests.lean ====
section
/-! DEFINITION. The data requests: READ, WRITE, CLEAR, COLLECT, GRANT, RELEASE, FLUSH, FLUSH with wait, and a frame of no
request kind. Each is served whole in its taking event (R4). -/

namespace Sys2Proof.Machine

/-! ### READ (R5, R12, R52, R53) -/

/-- The read slot table's part of a READ: an overlay hit, a deferred read, or BUSY. -/
def State.readTable (s : State) (q : ReqId) (c : ChannelId) (pg : BitVec 16) (o n : Nat) : Served :=
  let overlay := s.overlay c pg o n
  if overlay.all Option.isSome then (s.countOverlayHit, .data (overlay.filterMap id))
  else
    match s.slotFor q with
    | some i =>
      if s.queueHasRoom c then
        (((s.allocate i q (.read ⟨c, pg, o, n, overlay, none⟩)).appendOp c (.fetch pg o n i)).countDeferred,
          .defer s.issuedTicket)
      else refuseBusy s
    | none => refuseBusy s

/-- Checks 4 to 8 of a READ resolved to a window. -/
def resolvedRead (f : List Byte) (s : State) (q : ReqId) (w : WindowId) : Served :=
  let e := s.window w
  if !e.rights.read then refuse .noRight s
  else if Config.pageBytes < frameOffset f + frameLength f then refuse .range s
  else if !s.windowOnline w then refuse .offline s
  else s.readTable q e.channel (e.translate (frameLinkPage f)) (frameOffset f) (frameLength f)

/-- The service of a READ. -/
def serveRead (f : List Byte) (s : State) : Served := withWindow f s (resolvedRead f s)

/-- READ: the decoder takes a READ from the port. -/
def execRead (p : PortId) (s : State) : Result := s.takeHead p (.read p) serveRead

/-! ### WRITE (R13, R15, R27, R30) -/

/-- The bytes of a WRITE that are accepted: those up to the page end (R13). -/
def acceptedBytes (f : List Byte) : List Byte := (framePayload f).take (Config.pageBytes - frameOffset f)

/-- The pool's pressure seal: the oldest OPEN buffer, if there is one (R30). -/
def State.pressureSeal (s : State) : State :=
  match s.liveWith Buffer.isOpen with
  | b :: _ => s.sealBuffer b
  | [] => s

/-- The staging pool's part of a WRITE (R27). -/
def State.writePool (s : State) (q : ReqId) (grantWindow : Option WindowId) (c : ChannelId) (pg : BitVec 16) (o : Nat)
    (bytes : List Byte) : Served :=
  match (s.liveOn c pg).find? fun b => s.bufferHas b Buffer.isOpen with
  | some b => (s.mergeInto b q grantWindow o bytes, .ack bytes.length)
  | none =>
    if (s.liveOn c pg).length < Config.buffersPerPage then
      match s.freeBuffer with
      | some b => ((s.openBuffer b c pg).mergeInto b q grantWindow o bytes, .ack bytes.length)
      | none => refuseBusy s.pressureSeal
    else refuseBusy s

/-- Checks 4 to 8 of a WRITE resolved to a window. -/
def resolvedWrite (f : List Byte) (s : State) (q : ReqId) (w : WindowId) : Served :=
  let e := s.window w
  if !e.rights.write then refuse .noRight s
  else if !s.grantFits q w then refuse .noGrant s
  else if !s.windowOnline w then refuse .offline s
  else State.noteUse w (s.writePool q (if e.grantRequired then some w else none) e.channel
    (e.translate (frameLinkPage f)) (frameOffset f) (acceptedBytes f))

/-- The service of a WRITE. -/
def serveWrite (f : List Byte) (s : State) : Served := withWindow f s (resolvedWrite f s)

/-- WRITE: the decoder takes a WRITE from the port. -/
def execWrite (p : PortId) (s : State) : Result := s.takeHead p (.write p) serveWrite

/-! ### CLEAR (R14, R92) -/

/-- The staging pool holds a live buffer of a page of the sector (R92). -/
def State.sectorLive (s : State) (c : ChannelId) (sector : BitVec 12) : Bool :=
  !(s.liveWith fun x => x.channel == c && sectorOf x.page == sector).isEmpty

/-- The channel's part of a CLEAR (R92). -/
def State.clearChannel (s : State) (q : ReqId) (c : ChannelId) (sector : BitVec 12) : Served :=
  if s.sectorLive c sector then refuse .conflict s
  else if s.queueHasRoom c then (s.appendOp c (.clear sector q), .ack Config.sectorPages)
  else refuseBusy s

/-- Checks 4 to 8 of a CLEAR resolved to a window. -/
def resolvedClear (f : List Byte) (s : State) (q : ReqId) (w : WindowId) : Served :=
  let e := s.window w
  let sector := sectorOf (e.translate (frameLinkPage f))
  if !e.rights.clear then refuse .noRight s
  else if !e.coversSector sector then refuse .range s
  else if !s.grantFits q w then refuse .noGrant s
  else if !s.windowOnline w then refuse .offline s
  else State.noteUse w (s.clearChannel q e.channel sector)

/-- The service of a CLEAR. -/
def serveClear (f : List Byte) (s : State) : Served := withWindow f s (resolvedClear f s)

/-- CLEAR: the decoder takes a CLEAR from the port. -/
def execClear (p : PortId) (s : State) : Result := s.takeHead p (.clear p) serveClear

/-! ### COLLECT (R60) -/

/-- The response to a COLLECT of a slot by its owner (R60). -/
def Slot.collected (x : Slot) : Body :=
  match x.phase, x.work with
  | .fetching, _ => .defer x.ticket
  | .ready data _, .read _ => .data data
  | .ready _ _, .sync _ => .ack 0
  | .failed .storeFailed _, _ => .refuse .storeError
  | .failed .channelOffline _, _ => .refuse .offline

/-- The slot is FETCHING (waiting, for a SYNC slot). -/
def Slot.isFetching (x : Slot) : Bool :=
  match x.phase with
  | .fetching => true
  | .ready _ _ | .failed _ _ => false

/-- The read slot table's part of a COLLECT: a READY or FAILED slot is freed (R60). -/
def State.collectTicket (s : State) (q : ReqId) (t : BitVec 8) : Served :=
  match s.slotOfTicket t with
  | none => refuse .noTicket s
  | some i =>
    match s.slot i with
    | none => refuse .noTicket s
    | some x =>
      if x.requester == q then (if x.isFetching then s else s.setSlot i none, x.collected)
      else refuse .noTicket s

/-- The service of a COLLECT. -/
def serveCollect (f : List Byte) (s : State) : Served := withRequest f s fun q => s.collectTicket q (frameTicket f)

/-- COLLECT: the decoder takes a COLLECT from the port. -/
def execCollect (p : PortId) (s : State) : Result := s.takeHead p (.collect p) serveCollect

/-! ### GRANT and RELEASE (R112, R116) -/

/-- The grant table's part of a GRANT (R112). -/
def State.takeGrant (s : State) (q : ReqId) (w : WindowId) : Served :=
  if !(s.window w).grantRequired then (s, .ack 0)
  else
    match s.holderOf w with
    | none => (s.startGrant w q, .ack 1)
    | some h => if h == q then (s.startGrant w q, .ack 1) else refuse .grantHeld s

/-- Checks 4 to 8 of a GRANT resolved to a window. -/
def resolvedGrant (_f : List Byte) (s : State) (q : ReqId) (w : WindowId) : Served :=
  if !(s.window w).rights.write && !(s.window w).rights.clear then refuse .noRight s else s.takeGrant q w

/-- The service of a GRANT. -/
def serveGrant (f : List Byte) (s : State) : Served := withWindow f s (resolvedGrant f s)

/-- GRANT: the decoder takes a GRANT from the port. -/
def execGrant (p : PortId) (s : State) : Result := s.takeHead p (.grant p) serveGrant

/-- The grant table's part of a RELEASE (R116): no event record is appended. -/
def State.giveBack (s : State) (q : ReqId) (w : WindowId) : Served :=
  if s.holderOf w == some q then (s.endGrant w, .ack (s.openUnder w).length) else refuse .noGrant s

/-- Checks 4 to 8 of a RELEASE resolved to a window. -/
def resolvedRelease (_f : List Byte) (s : State) (q : ReqId) (w : WindowId) : Served := s.giveBack q w

/-- The service of a RELEASE. -/
def serveRelease (f : List Byte) (s : State) : Served := withWindow f s (resolvedRelease f s)

/-- RELEASE: the decoder takes a RELEASE from the port. -/
def execRelease (p : PortId) (s : State) : Result := s.takeHead p (.release p) serveRelease

/-! ### FLUSH (R34) and FLUSH with wait (R64, R65) -/

/-- The requester's WRITEs were merged into the buffer. -/
def Buffer.writtenBy (q : ReqId) (x : Buffer) : Bool := inSet x.writers q.toNat

/-- The OPEN buffers a requester wrote, in open-stamp order: the set S of R64. -/
def State.openBy (s : State) (q : ReqId) : List BufferId := s.liveWith fun x => x.isOpen && x.writtenBy q

/-- The set W of R64: the requester's live buffers that are not HELD. -/
def State.waitedBy (s : State) (q : ReqId) : List BufferId := s.liveWith fun x => !x.isHeld && x.writtenBy q

/-- The first case of R64: a HELD buffer of the requester, or an OPEN one whose channel is not online. -/
def State.cannotCommit (s : State) (q : ReqId) : Bool :=
  !(s.liveWith fun x => x.writtenBy q && (x.isHeld || (x.isOpen && !(s.channel x.channel).state.online))).isEmpty

/-- The pool's part of a FLUSH without wait (R34). -/
def State.flushPool (s : State) (q : ReqId) : Served := (s.sealAllOf (s.openBy q), .ack (s.openBy q).length)

/-- The service of a FLUSH without wait. -/
def serveFlush (f : List Byte) (s : State) : Served := withRequest f s fun q => s.flushPool q

/-- FLUSH: the decoder takes a FLUSH without wait from the port. -/
def execFlush (p : PortId) (s : State) : Result := s.takeHead p (.flush p) serveFlush

/-- The part of pool and read slot table in a FLUSH with wait (R64, R65). -/
def State.flushWait (s : State) (q : ReqId) : Served :=
  if s.cannotCommit q then refuse .storeError s
  else if (s.waitedBy q).isEmpty then (s, .ack 0)
  else
    match s.slotFor q with
    | some i =>
      ((s.sealAllOf (s.openBy q)).allocate i q (.sync (setOfList 12 ((s.waitedBy q).map Fin.val))), .defer s.issuedTicket)
    | none => refuseBusy s

/-- The service of a FLUSH with wait. -/
def serveFlushWithWait (f : List Byte) (s : State) : Served := withRequest f s fun q => s.flushWait q

/-- FLUSH_WITH_WAIT: the decoder takes a FLUSH with wait from the port. -/
def execFlushWithWait (p : PortId) (s : State) : Result := s.takeHead p (.flushWithWait p) serveFlushWithWait

/-! ### A frame of no request kind (R7) -/

/-- Check 1 fails on the kind. -/
def serveUnknownKind (_f : List Byte) (s : State) : Served := refuse .badFrame s

/-- UNKNOWN_FRAME_KIND: the decoder takes a frame of no request kind from the port. -/
def execUnknownFrameKind (p : PortId) (s : State) : Result := s.takeHead p (.unknownFrameKind p) serveUnknownKind

end Sys2Proof.Machine
end

