-- ==== Sys2Proof/Machine/Reset.lean ====
section
/-! DEFINITION. Pin reset (R155) and the deassertion of RESET_N (R156). -/

namespace Sys2Proof.Machine

/-- PIN_RESET: every block takes its pin reset values and RESET_N stays asserted. The stores are nonvolatile devices outside the
part: what the OK completions said of them still stands (log entry 9). -/
def execPinReset (s : State) : Result :=
  .next { State.reset with store0 := s.store0, store1 := s.store1, pending := s.pending }

/-- The management ID read from the straps: 0 is read as 31 (R143, R156). -/
def strapId (mgid : BitVec 5) : ReqId := if mgid = 0 then 31 else mgid

/-- RESET_DEASSERTION: the straps are sampled and the part takes events from now on. Without a RESET_N that is asserted there is
no deassertion (log entry 4). -/
def execResetDeassertion (mgid : BitVec 5) (s : State) : Result :=
  .next (if s.resetAsserted then
    { s with
      resetAsserted := false
      managers := joinSet 0 (strapId mgid).toNat
      params := Params.defaults
      restart := none
      timeBase := 0 }
  else s)

end Sys2Proof.Machine
end

