-- ==== Sys2Proof/Machine/Link.lean ====
section
/-! DEFINITION. The events of a link port (chapter 7): arrivals, link-up, link-down, and the end of a transmission. -/

namespace Sys2Proof.Machine

/-- An event of the part: nothing happens while RESET_N is asserted (R155), and a pending notice is placed at its end (R134). -/
def State.event (s : State) (change : State → State) : Result :=
  .next (if s.resetAsserted then s else (change s).placeNotice)

/-! ### FRAME_ARRIVAL (R128) -/

/-- Check 2 passes: 20 to 84 bytes with a matching trailer (R128, R169). -/
def frameIntact (f : List Byte) : Bool :=
  Config.frameOverhead ≤ f.length && f.length ≤ Config.largestArrival && trailerMatches f

/-- The credit check fails: inbound frames plus credits owed are already 8 (R128). -/
def Port.overrun (q : Port) : Bool := Config.queuePlaces ≤ q.inbound.length + q.owed

/-- An arrival at an UP port: the three checks in order (R128). A drop that owes a credit may start a CREDIT frame (R133). -/
def State.arrive (p : PortId) (f : List Byte) (s : State) : State :=
  let q := s.port p
  if q.overrun then
    (s.setPort p { q with counters := { q.counters with overruns := bump q.counters.overruns } }).append (.frameOverrun p)
  else if !frameIntact f then
    s.setPort p { q with
      owed := q.owed + 1
      counters := { q.counters with crcDrops := bump q.counters.crcDrops } }.startTransmitter
  else if frameDest f != 0 then
    s.setPort p { q with
      owed := q.owed + 1
      counters := { q.counters with misrouted := bump q.counters.misrouted } }.startTransmitter
  else s.setPort p { q with inbound := q.inbound ++ [f] }

/-- FRAME_ARRIVAL: no frame arrives on a DOWN port (R126). -/
def execFrameArrival (p : PortId) (f : List Byte) (s : State) : Result :=
  s.event fun s => if (s.port p).up then s.arrive p f else s

/-! ### LINK_UP and LINK_DOWN (R125, R126) -/

/-- A port with its queues, reservation, transmitter and credits at their reset values (R125, R126). Its counters stay. -/
def Port.cleared (q : Port) (up : Bool) : Port where
  up := up
  inbound := []
  outbound := []
  reserved := 0
  transmitter := .idle
  owed := 0
  counters := q.counters

/-- LINK_UP: a DOWN port becomes UP and LINK_UP is appended; an UP port is left. -/
def execLinkUp (p : PortId) (s : State) : Result :=
  s.event fun s => if (s.port p).up then s else (s.setPort p ((s.port p).cleared true)).append (.linkUp p)

/-- LINK_DOWN: an UP port becomes DOWN with everything queued discarded, and LINK_DOWN is appended; a DOWN port is left. -/
def execLinkDown (p : PortId) (s : State) : Result :=
  s.event fun s => if (s.port p).up then (s.setPort p ((s.port p).cleared false)).append (.linkDown p) else s

/-! ### TRANSMISSION_END (R132, R133) -/

/-- The frame sent leaves: the head of the outbound queue, or a CREDIT frame, which has no place there. The transmitter then
starts the next head, a CREDIT frame, or stays IDLE. -/
def Port.transmissionEnded (q : Port) : Port :=
  match q.transmitter with
  | .idle => q
  | .sendingHead => { q with outbound := q.outbound.tail, transmitter := .idle }.startTransmitter
  | .sendingCredit _ => { q with transmitter := .idle }.startTransmitter

/-- TRANSMISSION_END: the physical layer reports the end of the port's transmission. -/
def execTransmissionEnd (p : PortId) (s : State) : Result :=
  s.event fun s => s.setPort p (s.port p).transmissionEnded

end Sys2Proof.Machine
end

