-- ==== Sys2Proof/Machine/StorePort.lean ====
section
/-! DEFINITION. The events of a store channel: a completion from its device (R77, R79, R80, R83) and the expiry of its
operation timer (R82). -/

namespace Sys2Proof.Machine

/-- The operation in progress of a channel: the head, when the state is BUSY or QUIESCING (R72). -/
def Channel.inProgress (ch : Channel) : Option Op := if ch.state.working then ch.queue.head? else none

/-- An OK completion's form fits the operation: a FETCH gets exactly its length, a PROGRAM or CLEAR no bytes (R77). -/
def OpKind.formFits (k : OpKind) (bytes : List Byte) : Bool :=
  match k with
  | .fetch _ _ n _ => bytes.length == n
  | .program _ _ | .clear _ _ => bytes.isEmpty

/-- A completion that matches the attempt in progress: its result under R79, or a failed attempt under R80 (R77). -/
def State.takeCompletion (s : State) (c : ChannelId) (op : Op) (status : CompletionStatus) (bytes : List Byte) : State :=
  match status with
  | .ok => if op.kind.formFits bytes then s.headSucceeded c op bytes else s.failedAttempt c op
  | .fail => s.failedAttempt c op

/-- A late completion is counted, recorded and discarded (R83). -/
def State.discardLate (s : State) (c : ChannelId) : State := s.countLate.append (.lateCompletion c)

/-- STORE_COMPLETION: taken when its number is that of the attempt in progress, else late. A pending restart may complete (R152). -/
def execStoreCompletion (c : ChannelId) (number : BitVec 8) (status : CompletionStatus) (bytes : List Byte) (s : State) :
    Result :=
  s.event fun s =>
    match (s.channel c).inProgress with
    | some op =>
      if number = (s.channel c).number then (s.takeCompletion c op status bytes).settleRestart else s.discardLate c
    | none => s.discardLate c

/-- OPERATION_TIMER_EXPIRY: the time left passes, the timeout is counted, the attempt failed (R82). A stopped timer does not
expire. -/
def execOperationTimerExpiry (c : ChannelId) (s : State) : Result :=
  s.event fun s =>
    match (s.channel c).timer, (s.channel c).inProgress with
    | some left, some op => (((s.elapse left).countTimeout).failedAttempt c op).settleRestart
    | _, _ => s

end Sys2Proof.Machine
end

