-- ==== Sys2Proof/Machine/Timers.lean ====
section
/-! DEFINITION. The expiries of the timers of buffers, slots and grants (R32, R33, R62, R118). An expiry lets the time left on
its timer pass first (log entry 2); the expiry of a timer that does not run is no event (log entry 4). -/

namespace Sys2Proof.Machine

/-- IDLE_TIMER_EXPIRY: the OPEN buffer is sealed (R32). -/
def execIdleTimerExpiry (b : BufferId) (s : State) : Result :=
  s.event fun s =>
    match (s.buffer b).map Buffer.phase with
    | some (.opened idle _) => (s.elapse idle).sealBuffer b
    | _ => s

/-- OPEN_LIMIT_EXPIRY: the OPEN buffer is sealed (R33). -/
def execOpenLimitExpiry (b : BufferId) (s : State) : Result :=
  s.event fun s =>
    match (s.buffer b).map Buffer.phase with
    | some (.opened _ limit) => (s.elapse limit).sealBuffer b
    | _ => s

/-- The time left on a slot's hold timer, which runs in READY and FAILED (R62). -/
def Slot.holdLeft (x : Slot) : Option Micros :=
  match x.phase with
  | .fetching => none
  | .ready _ hold => some hold
  | .failed _ hold => some hold

/-- A READY or FAILED slot is abandoned: freed, counted, READ_ABANDONED appended (R62). -/
def State.abandonSlot (s : State) (i : SlotId) (x : Slot) : State :=
  (s.setSlot i none).countAbandoned.append (.readAbandoned x.requester x.ticket i)

/-- HOLD_TIMER_EXPIRY: the slot is abandoned (R62). -/
def execHoldTimerExpiry (i : SlotId) (s : State) : Result :=
  s.event fun s =>
    match s.slot i with
    | some x =>
      match x.holdLeft with
      | some left => (s.elapse left).abandonSlot i x
      | none => s
    | none => s

/-- INACTIVITY_TIMER_EXPIRY: the grant ends with GRANT_EXPIRED (R118). -/
def execInactivityTimerExpiry (w : WindowId) (s : State) : Result :=
  s.event fun s =>
    match s.grantOf w with
    | some g => ((s.elapse g.timer).endGrant w).append (.grantExpired g.holder w)
    | none => s

end Sys2Proof.Machine
end

