-- ==== Sys2Proof/Machine/Dispatch.lean ====
section
/-! DEFINITION. The meaning of each command: one arm per constructor of Instr. -/

namespace Sys2Proof.Machine

def exec (i : Instr) (s : State) : Host.Outcome State Fault Refusal :=
  match i with
  | .frameArrival p frame => Sys2Proof.Machine.execFrameArrival p frame s
  | .linkUp p => Sys2Proof.Machine.execLinkUp p s
  | .linkDown p => Sys2Proof.Machine.execLinkDown p s
  | .transmissionEnd p => Sys2Proof.Machine.execTransmissionEnd p s
  | .unknownFrameKind p => Sys2Proof.Machine.execUnknownFrameKind p s
  | .read p => Sys2Proof.Machine.execRead p s
  | .write p => Sys2Proof.Machine.execWrite p s
  | .clear p => Sys2Proof.Machine.execClear p s
  | .collect p => Sys2Proof.Machine.execCollect p s
  | .grant p => Sys2Proof.Machine.execGrant p s
  | .release p => Sys2Proof.Machine.execRelease p s
  | .flush p => Sys2Proof.Machine.execFlush p s
  | .flushWithWait p => Sys2Proof.Machine.execFlushWithWait p s
  | .unknownMgmtOperation p => Sys2Proof.Machine.execUnknownMgmtOperation p s
  | .windowLoad p => Sys2Proof.Machine.execWindowLoad p s
  | .windowClear p => Sys2Proof.Machine.execWindowClear p s
  | .windowRead p => Sys2Proof.Machine.execWindowRead p s
  | .grantRevoke p => Sys2Proof.Machine.execGrantRevoke p s
  | .bufferRead p => Sys2Proof.Machine.execBufferRead p s
  | .bufferRetry p => Sys2Proof.Machine.execBufferRetry p s
  | .bufferDiscard p => Sys2Proof.Machine.execBufferDiscard p s
  | .sealAll p => Sys2Proof.Machine.execSealAll p s
  | .channelOffline p => Sys2Proof.Machine.execChannelOffline p s
  | .channelOnline p => Sys2Proof.Machine.execChannelOnline p s
  | .eventsRead p => Sys2Proof.Machine.execEventsRead p s
  | .countersRead p => Sys2Proof.Machine.execCountersRead p s
  | .countersClear p => Sys2Proof.Machine.execCountersClear p s
  | .paramSet p => Sys2Proof.Machine.execParamSet p s
  | .paramRead p => Sys2Proof.Machine.execParamRead p s
  | .mgmtSetWrite p => Sys2Proof.Machine.execMgmtSetWrite p s
  | .statusRead p => Sys2Proof.Machine.execStatusRead p s
  | .restart p => Sys2Proof.Machine.execRestart p s
  | .storeCompletion c number status bytes => Sys2Proof.Machine.execStoreCompletion c number status bytes s
  | .operationTimerExpiry c => Sys2Proof.Machine.execOperationTimerExpiry c s
  | .idleTimerExpiry b => Sys2Proof.Machine.execIdleTimerExpiry b s
  | .openLimitExpiry b => Sys2Proof.Machine.execOpenLimitExpiry b s
  | .holdTimerExpiry k => Sys2Proof.Machine.execHoldTimerExpiry k s
  | .inactivityTimerExpiry w => Sys2Proof.Machine.execInactivityTimerExpiry w s
  | .pinReset => Sys2Proof.Machine.execPinReset s
  | .resetDeassertion mgid => Sys2Proof.Machine.execResetDeassertion mgid s

end Sys2Proof.Machine
end

