-- ==== Sys2Proof/Machine/Step.lean ====
section
/-! DEFINITION. One step: the command at the front of the queue, or, when none waits, one microsecond. -/

namespace Sys2Proof.Machine

/-- One microsecond passes while no command waits; none while RESET_N is asserted, when the time base stands at 0 and every timer
is stopped (R148, R155; log entry 1). -/
def State.idleStep (s : State) : State := if s.resetAsserted then s else s.elapse 1

/-- One step of the block. -/
def step (s : State) : Host.Outcome State Fault Refusal :=
  match s.pending with
  | [] => .next s.idleStep
  | i :: rest => exec i { s with pending := rest }

/-- The state with the command a table word spells put at the front of its queue; no word spells one. -/
def State.withFetchWord (s : State) (nbits w : Nat) : State :=
  match decodeTableWord nbits w with
  | some i => { s with pending := i :: s.pending }
  | none => s

end Sys2Proof.Machine
end

