-- ==== Sys2Proof/Safety.lean ====
section
/-! DEFINITION. The laws the spec states of every moment between events, as decidable properties of a state, and the words in
which the statements about single commands say when a command is served. -/

namespace Sys2Proof.Machine

/-! ### Link ports (R124, R129 to R133) -/

/-- The transmitter fits the queue: an IDLE one has nothing to send and owes nothing (R132, R133). -/
def Port.transmitterFits (q : Port) : Bool :=
  match q.transmitter with
  | .idle => q.outbound.isEmpty && q.owed == 0
  | .sendingHead => !q.outbound.isEmpty
  | .sendingCredit n => decide (1 ≤ n) && decide (n ≤ Config.queuePlaces)

/-- The credit and place law (R129, R131) with the ranges of R124; a DOWN port holds nothing (R126). -/
abbrev Port.lawful (q : Port) : Prop :=
  q.inbound.length + q.owed ≤ Config.queuePlaces
    ∧ q.outbound.length ≤ Config.queuePlaces
    ∧ q.reserved = 0
    ∧ q.transmitterFits = true
    ∧ (q.up = false → q.inbound = [] ∧ q.outbound = [] ∧ q.owed = 0 ∧ q.transmitter = .idle)

/-- Every queued inbound frame passed the arrival checks (R124, R128). -/
abbrev Port.inboundChecked (q : Port) : Prop := q.inbound.all (fun f => frameIntact f && frameDest f == 0) = true

/-- The credit returns: 0..8, and 0 in a frame whose transmission has not started (R124, R130, R132). -/
abbrev Port.creditsFit (q : Port) : Prop :=
  q.outbound.all (fun r => r.creditReturn ≤ Config.queuePlaces) = true
    ∧ q.outbound.tail.all (fun r => r.creditReturn == 0) = true

abbrev State.portsLawful (s : State) : Prop := s.lp0.lawful ∧ s.lp1.lawful

abbrev State.framesLawful (s : State) : Prop :=
  (s.lp0.inboundChecked ∧ s.lp0.creditsFit) ∧ s.lp1.inboundChecked ∧ s.lp1.creditsFit

/-! ### Event log and notice (R159 to R162) -/

/-- The event log law (R159): at most 16 records with consecutive sequence numbers, the newest just below the counter; an empty
log has no overflow (R160). -/
abbrev State.logLawful (s : State) : Prop :=
  s.log.length ≤ Config.logPlaces
    ∧ s.log.map EventRecord.sequence
        = (List.range s.log.length).map (fun i => s.sequence - BitVec.ofNat 16 (s.log.length - i))
    ∧ (s.log = [] → s.overflow = 0)

/-- A PENDING notice has a target port without a free place (R134, R162). -/
def State.noticeWaits (s : State) : Bool :=
  match s.notice, s.params.noticeTarget with
  | .pending, some (_, p) => !(s.port p).hasPlace
  | _, _ => true

/-- PENDING and SENT find a target and at least one record (R161); a PENDING notice waits for a place (R162). -/
abbrev State.noticeLawful (s : State) : Prop :=
  (s.notice ≠ .armed → s.params.noticeTarget ≠ none ∧ s.log ≠ []) ∧ s.noticeWaits = true

/-! ### Management unit (R140, R143, R145) -/

/-- The management set has a member and does not name ID 0 (R143). -/
abbrev State.managersLawful (s : State) : Prop := s.managers ≠ 0 ∧ inSet s.managers 0 = false

/-- NOTICE_TARGET is none or a requester 1..31 on a port (R145). -/
def Params.targetFits (ps : Params) : Bool :=
  match ps.noticeTarget with
  | none => true
  | some (q, _) => q != 0

/-- Every parameter is in its range (R145). -/
abbrev Params.lawful (ps : Params) : Prop :=
  (100 ≤ ps.holdTime ∧ ps.holdTime ≤ 65535)
    ∧ (50 ≤ ps.coalesceIdle ∧ ps.coalesceIdle ≤ 65535)
    ∧ (1 ≤ ps.openLimit ∧ ps.openLimit ≤ 255)
    ∧ (1 ≤ ps.grantLife ∧ ps.grantLife ≤ 255)
    ∧ (1 ≤ ps.opTimeout ∧ ps.opTimeout ≤ 255)
    ∧ ps.retryLimit ≤ 7
    ∧ (1 ≤ ps.offlineStreak ∧ ps.offlineStreak ≤ 15)
    ∧ (1 ≤ ps.slotsPerReq ∧ ps.slotsPerReq ≤ 8)
    ∧ ps.targetFits = true

abbrev State.paramsLawful (s : State) : Prop := s.params.lawful

/-! ### Windows and grants (R1, R19, R111) -/

/-- A valid entry satisfies every range of R1 and R18. -/
abbrev WindowEntry.inRanges (e : WindowEntry) : Prop :=
  (e.requesters ≠ 0 ∧ inSet e.requesters 0 = false)
    ∧ (1 ≤ e.pageCount ∧ e.pageCount ≤ Config.storePages)
    ∧ e.linkBase.toNat + e.pageCount ≤ Config.linkPages
    ∧ e.storeBase.toNat + e.pageCount ≤ Config.storePages
    ∧ (e.rights.read ∨ e.rights.write ∨ e.rights.clear)
    ∧ (e.grantRequired → e.rights.write ∨ e.rights.clear)

/-- Valid entries are in range, and no two share a requester and a link page (R19). -/
abbrev State.windowsLawful (s : State) : Prop :=
  (∀ w : WindowId, (s.window w).valid → (s.window w).inRanges)
    ∧ ∀ v w : WindowId, v ≠ w → (s.window v).valid → (s.window w).valid → (s.window v).overlaps (s.window w) = false

/-- A record has a holder only on a valid entry that requires a grant, and the holder is 1..31 (R111). -/
abbrev State.grantsLawful (s : State) : Prop :=
  ∀ w : WindowId, s.holderOf w ≠ none →
    s.holderOf w ≠ some 0 ∧ (s.window w).valid = true ∧ (s.window w).grantRequired = true

/-! ### Read slots (R48 to R51) -/

/-- The ticket a live slot holds. -/
def State.ticketOf (s : State) (i : SlotId) : Option (BitVec 8) := (s.slot i).map Slot.ticket

/-- The ticket law (R50): no two live slots hold one ticket, and 0 is never issued. -/
abbrev State.ticketsLawful (s : State) : Prop :=
  s.ticketCounter ≠ 0
    ∧ (∀ i : SlotId, s.ticketOf i ≠ some 0)
    ∧ ∀ i j : SlotId, i ≠ j → s.ticketOf i ≠ none → s.ticketOf i ≠ s.ticketOf j

/-- Range and overlay of a READ slot; a full overlay is never deferred (R48, R52). -/
def ReadWork.fits (r : ReadWork) : Bool :=
  decide (1 ≤ r.length) && decide (r.length ≤ Config.largestTransfer)
    && decide (r.offset + r.length ≤ Config.pageBytes)
    && r.overlay.length == r.length && !r.overlay.all Option.isSome

/-- The fields of a live slot are in the ranges of R48. -/
def Slot.inRanges (x : Slot) : Bool :=
  x.requester != 0 &&
  match x.work, x.phase with
  | .read r, .fetching => r.fits
  | .read r, .ready data _ => r.fits && data.length == r.length
  | .read r, .failed _ _ => r.fits
  | .sync m, .fetching => m != 0
  | .sync _, .ready data _ => data.isEmpty
  | .sync m, .failed _ _ => m != 0

/-- A buffer on its way to the store: SEALED, QUEUED or PROGRAMMING. -/
def BufferPhase.committing : BufferPhase → Bool
  | .sealed | .queued | .programming => true
  | .opened _ _ | .held _ => false

/-- Every buffer a waiting SYNC slot waits on is on its way and was written by the slot's requester (R65, R174). -/
def State.waitFits (s : State) (x : Slot) : Bool :=
  match x.work, x.phase with
  | .sync m, .fetching =>
    (List.finRange 12).all fun b => !inSet m b || s.bufferHas b fun y => y.phase.committing && y.writtenBy x.requester
  | _, _ => true

abbrev State.slotsLawful (s : State) : Prop :=
  ∀ i : SlotId, ((s.slot i).all fun x => x.inRanges && s.waitFits x) = true

/-! ### Store channels (R72 to R75, R85) -/

/-- State, queue and timer agree (R73), the queue holds at most 16 operations (R75), and the streak at most 15, below 15 while the
channel is not OFFLINE (R85). -/
abbrev Channel.lawful (ch : Channel) : Prop :=
  ch.queue.length ≤ Config.channelPlaces
    ∧ (ch.state.working = true → ch.queue ≠ [] ∧ ch.timer ≠ none)
    ∧ (ch.state.working = false → ch.queue = [] ∧ ch.timer = none)
    ∧ ch.streak ≤ 15
    ∧ (ch.state ≠ .offline → ch.streak ≤ 14)

abbrev State.channelsLawful (s : State) : Prop := s.sc0.lawful ∧ s.sc1.lawful

/-! ### Operations and their owners (R54, R74, R78, R94) -/

/-- The buffer, and the slot, an operation names. -/
def Op.bufferRef (op : Op) : Option BufferId :=
  match op.kind with
  | .program _ b => some b
  | .fetch _ _ _ _ | .clear _ _ => none
def Op.slotRef (op : Op) : Option SlotId :=
  match op.kind with
  | .fetch _ _ _ i => some i
  | .program _ _ | .clear _ _ => none

/-- The slot of a FETCH awaits it, with the operation number of the attempt if it is the one in progress (R54). -/
def Slot.awaitsOp (x : Slot) (c : ChannelId) (pg : BitVec 16) (o n : Nat) (number : Option (BitVec 8)) : Bool :=
  match x.phase, x.work with
  | .fetching, .read r =>
    r.channel == c && r.page == pg && r.offset == o && r.length == n && r.number == number
  | _, _ => false

/-- An operation of a channel agrees with its owner's record; `number` is that of the attempt in progress if this is the one. -/
def State.opFits (s : State) (c : ChannelId) (number : Option (BitVec 8)) (op : Op) : Bool :=
  (if number.isSome then decide (1 ≤ op.attempts) && decide (op.attempts ≤ 8) else op.attempts == 0) &&
  match op.kind with
  | .fetch pg o n i => (s.slot i).any fun x => x.awaitsOp c pg o n number
  | .program pg b =>
    s.bufferHas b fun x => x.isOn c pg && x.attempts == op.attempts
      && x.phase == (if number.isSome then .programming else .queued)
  | .clear _ q => q != 0

/-- The operations of a channel agree with their owners: the head of a working channel is in progress, the rest wait. -/
def State.queueFits (s : State) (c : ChannelId) : Bool :=
  match (s.channel c).queue with
  | [] => true
  | op :: rest => s.opFits c (some (s.channel c).number) op && rest.all (s.opFits c none)

/-- All queued operations of the part. -/
def State.allOps (s : State) : List Op := s.sc0.queue ++ s.sc1.queue

/-- Buffers of PROGRAMs and slots of FETCHes in the queues. -/
def State.queuedBuffers (s : State) : List BufferId := s.allOps.filterMap Op.bufferRef
def State.queuedSlots (s : State) : List SlotId := s.allOps.filterMap Op.slotRef

/-- The slot is waiting for a FETCH. -/
def Slot.fetchesRead (x : Slot) : Bool :=
  match x.phase, x.work with
  | .fetching, .read _ => true
  | _, _ => false

/-- Queues and records agree: each operation fits its owner, no owner has two, and outside a restart every buffer that is QUEUED or
PROGRAMMING and every READ slot that is FETCHING has its operation; a PROGRAMMING buffer has it always (R47, R58, R149). -/
abbrev State.queuesLawful (s : State) : Prop :=
  s.queueFits .sc0 = true ∧ s.queueFits .sc1 = true
    ∧ s.queuedBuffers.Nodup ∧ s.queuedSlots.Nodup
    ∧ (∀ b : BufferId, (s.bufferHas b fun x => x.phase == .programming || (x.phase == .queued && !s.restartPending)) = true →
        b ∈ s.queuedBuffers)
    ∧ (s.restart = none → ∀ i : SlotId, ((s.slot i).any Slot.fetchesRead) = true → i ∈ s.queuedSlots)

/-! ### Staging pool (R23 to R26, R31, R35, R37, R96) -/

/-- The fields of a live buffer are in the ranges of R23 and R96. -/
def Buffer.inRanges (x : Buffer) : Bool :=
  !x.staged.isEmpty && x.staged.all (fun c => c.1 < Config.pageBytes)
    && x.writers != 0 && !inSet x.writers 0
    && match x.phase with
      | .opened _ _ | .sealed | .queued | .held .channelOffline => x.attempts == 0
      | .programming | .held .programFailed => decide (1 ≤ x.attempts) && decide (x.attempts ≤ 8)

abbrev State.buffersLawful (s : State) : Prop :=
  ∀ b : BufferId, ((s.buffer b).all fun x => x.inRanges && decide (cellsWf x.staged)) = true

/-- The order of openings holds exactly the live buffers (R25), and the seal list exactly the SEALED ones (R35), each once. -/
abbrev State.listsLawful (s : State) : Prop :=
  s.openOrder.Nodup ∧ (∀ b : BufferId, b ∈ s.openOrder ↔ (s.buffer b).isSome = true)
    ∧ s.sealList.Nodup ∧ (∀ b : BufferId, b ∈ s.sealList ↔ s.bufferHas b Buffer.isSealed = true)

/-- Of the live buffers of a page, oldest first, there are at most two, and only the newest may be OPEN (R26). -/
def State.pageFits (s : State) (x : Buffer) : Bool :=
  let bs := s.liveOn x.channel x.page
  decide (bs.length ≤ Config.buffersPerPage) && bs.dropLast.all fun b => s.bufferHas b fun y => !y.isOpen

/-- The page occupancy law (R26). -/
abbrev State.occupancyLawful (s : State) : Prop := ∀ b : BufferId, ((s.buffer b).all s.pageFits) = true

/-- The page order law (R37): a buffer that is QUEUED or PROGRAMMING is the oldest live buffer of its page. -/
def State.oldestOfPage (s : State) (b : BufferId) (x : Buffer) : Bool :=
  match x.phase with
  | .queued | .programming => (s.liveOn x.channel x.page).head? == some b
  | .opened _ _ | .sealed | .held _ => true

abbrev State.pageOrderLawful (s : State) : Prop :=
  ∀ b : BufferId, ((s.buffer b).all fun x => s.oldestOfPage b x) = true

/-- A SEALED, QUEUED or PROGRAMMING buffer lies on a channel that is not OFFLINE (R43), but for a QUEUED one whose PROGRAM a pending
restart removed (R47); one held for its channel lies on a channel that is QUIESCING or OFFLINE (R96). -/
def State.channelFits (s : State) (x : Buffer) : Bool :=
  match x.phase with
  | .sealed | .programming => (s.channel x.channel).state != .offline
  | .queued => s.restartPending || (s.channel x.channel).state != .offline
  | .held .channelOffline => !(s.channel x.channel).state.online
  | .opened _ _ | .held .programFailed => true

abbrev State.holdsLawful (s : State) : Prop := ∀ b : BufferId, ((s.buffer b).all s.channelFits) = true

/-- A live buffer names only windows whose grants are held (R23, R36). -/
abbrev State.grantWindowsLawful (s : State) : Prop :=
  ∀ (b : BufferId) (w : WindowId), (s.bufferHas b fun x => inSet x.grantWindows w) = true → s.grantOf w ≠ none

/-! ### Stores and reset -/

/-- What the part takes the stores to hold is in canonical form (log entry 9). -/
abbrev State.storesLawful (s : State) : Prop := cellsWf s.store0 ∧ cellsWf s.store1

/-- While RESET_N is asserted every block stands at its pin reset values (R155); the stores are outside the part. -/
abbrev State.resetLawful (s : State) : Prop :=
  s.resetAsserted = true → s = { State.reset with store0 := s.store0, store1 := s.store1, pending := s.pending }

/-! ### All of them -/

/-- The operation is a CLEAR of the page's sector, or a PROGRAM of a page of that sector. -/
def Op.clears (pg : BitVec 16) (op : Op) : Bool :=
  match op.kind with
  | .clear sector _ => sector == sectorOf pg
  | .fetch _ _ _ _ | .program _ _ => false
def Op.programsUnder (sector : BitVec 12) (op : Op) : Bool :=
  match op.kind with
  | .program pg _ => sectorOf pg == sector
  | .fetch _ _ _ _ | .clear _ _ => false

/-- A CLEAR b stands behind no PROGRAM a of its sector. -/
def Op.mayPrecede (a b : Op) : Bool :=
  match b.kind with
  | .clear sector _ => !a.programsUnder sector
  | .fetch _ _ _ _ | .program _ _ => true

/-- Every write accepted before a queued CLEAR has reached the store: the CLEAR finds no PROGRAM of its sector before it (R92). -/
abbrev State.clearsLawful (s : State) : Prop :=
  s.sc0.queue.Pairwise (fun a b => a.mayPrecede b = true) ∧ s.sc1.queue.Pairwise (fun a b => a.mayPrecede b = true)

/-- Every law of a moment between events. -/
abbrev State.lawful (s : State) : Prop :=
  s.portsLawful ∧ s.framesLawful ∧ s.logLawful ∧ s.noticeLawful ∧ s.managersLawful ∧ s.paramsLawful
    ∧ s.windowsLawful ∧ s.grantsLawful ∧ s.ticketsLawful ∧ s.slotsLawful ∧ s.channelsLawful ∧ s.queuesLawful
    ∧ s.buffersLawful ∧ s.listsLawful ∧ s.occupancyLawful ∧ s.pageOrderLawful ∧ s.holdsLawful
    ∧ s.grantWindowsLawful ∧ s.clearsLawful ∧ s.storesLawful ∧ s.resetLawful

/-! ### When a command is served -/

/-- The head frame f of port p may be taken, and `command` is the command that takes it (R131). -/
abbrev State.offers (s : State) (p : PortId) (command : Instr) (f : List Byte) : Prop :=
  s.resetAsserted = false ∧ (s.port p).up = true ∧ (s.port p).placesUsed < Config.queuePlaces
    ∧ (s.port p).inbound.head? = some f ∧ takingCommand p f = command

/-- A taken data request passes checks 1 and 2, for requester q (R7, R8). -/
abbrev State.admits (s : State) (p : PortId) (command : Instr) (f : List Byte) (q : ReqId) : Prop :=
  s.offers p command f ∧ frameWellFormed f = true ∧ s.restart = none ∧ frameRequester f = q

/-- It passes check 3 as well, through window w (R2, R10). -/
abbrev State.resolves (s : State) (p : PortId) (command : Instr) (f : List Byte) (q : ReqId) (w : WindowId) : Prop :=
  s.admits p command f q ∧ s.matchWindow q (frameLinkPage f) = some w

/-- A taken MGMT frame passes check 1 and the authority check, with this operand (R7, R9). -/
abbrev State.obeys (s : State) (p : PortId) (command : Instr) (f operand : List Byte) : Prop :=
  s.offers p command f ∧ frameWellFormed f = true ∧ inSet s.managers (frameRequester f).toNat = true
    ∧ frameOperand f = operand

/-- The page a request through window w reaches (R2), and its channel. -/
abbrev State.pageOf (s : State) (w : WindowId) (f : List Byte) : BitVec 16 := (s.window w).translate (frameLinkPage f)
abbrev State.channelOf (s : State) (w : WindowId) : ChannelId := (s.window w).channel

/-- Check 6 passes for requester q (R15). -/
abbrev State.mayChange (s : State) (q : ReqId) (w : WindowId) : Prop :=
  (s.window w).grantRequired = true → s.holderOf w = some q

/-- An accepted WRITE or CLEAR of requester q through w starts the inactivity timer of a window that requires a grant (R5, R115). -/
def State.grantUsed (s : State) (w : WindowId) (q : ReqId) : State :=
  if (s.window w).grantRequired then s.setGrant w (some ⟨q, s.params.grantLife * Config.microsPerMilli⟩) else s

/-- The channel with one more operation, which an IDLE channel starts at once with this command (R75, R78). -/
def Channel.withOp (ch : Channel) (k : OpKind) (request : StoreRequest) (opTimeout : Nat) : Channel :=
  if ch.state = .idle then
    { ch with
      state := .busy
      queue := [⟨k, 1⟩]
      timer := some (opTimeout * Config.microsPerMilli)
      number := ch.number + 1
      sent := some ⟨ch.number + 1, request⟩ }
  else { ch with queue := ch.queue ++ [⟨k, 0⟩] }

/-- The value of a byte after every WRITE and CLEAR accepted so far: the newest staged byte, else 0xFF when a CLEAR of its sector is
queued, else what the store is taken to hold, if that is known (R44, R59, R92). -/
def State.accepted (s : State) (c : ChannelId) (pg : BitVec 16) (pos : Nat) : Option Byte :=
  (s.overlayAt c pg pos).or
    (if (s.channel c).queue.any (Op.clears pg) then some 0xFF#8 else cellAt (s.store c) (pageStart pg + pos))

/-- The slots after buffer b went HELD: every SYNC slot that waits on it is FAILED (R67). -/
def failWaiting (b : BufferId) (cause : FailureCause) (hold : Micros) (slots : Vector (Option Slot) 8) :
    Vector (Option Slot) 8 :=
  slots.map (Option.map fun y => match y.phase, y.work with
    | .fetching, .sync m => if inSet m b then { y with phase := .failed cause hold } else y
    | _, _ => y)

/-- The reply of a management operation, placed for the frame that asked. -/
def repliedTo (p : PortId) (f : List Byte) (s : State) (r : MgmtResult) (operand : List Byte) : State :=
  afterTaking p f (s, .mgmtReply (frameOpCode f) r operand)

/-- A refusal placed for the frame, with nothing changed but the taking. -/
def State.refusing (s : State) (p : PortId) (f : List Byte) (r : Reason) : State :=
  afterTaking p f (s.beginTaking p, .refuse r)

/-- A window entry as WINDOW_LOAD's operand carries it: index, then every field but `valid` (R18, R172). -/
def WindowEntry.operand (w : WindowId) (e : WindowEntry) : List Byte :=
  bytesOf 1 w ++ bytesOf 4 e.requesters.toNat ++ bytesOf 3 e.linkBase.toNat ++ bytesOf 3 e.pageCount
    ++ bytesOf 2 e.storeBase.toNat ++ bytesOf 1 (if e.channel = .sc0 then 0 else 1)
    ++ bytesOf 1 ((if e.rights.read then 1 else 0) + (if e.rights.write then 2 else 0) + (if e.rights.clear then 4 else 0))
    ++ bytesOf 1 (if e.grantRequired then 1 else 0)

/-- The operand size of an operation code, and whether it is served while restart is pending (R142, R171). -/
def mgmtShape : Nat → Option (Nat × Bool)
  | 0x10 => some (16, false)
  | 0x11 | 0x12 | 0x18 | 0x20 | 0x21 | 0x22 | 0x30 | 0x31 | 0x41 => some (1, false)
  | 0x23 | 0x42 | 0x51 => some (0, false)
  | 0x40 => some (1, true)
  | 0x50 => some (3, false)
  | 0x52 => some (4, false)
  | 0x53 | 0x5F => some (0, true)
  | _ => none

end Sys2Proof.Machine
end

