-- ==== Sys2Proof/Certificates/Slice0/Obligations.lean ====
section
/-! DEFINITION. The statements for the provers. Each holds for every state that meets its hypotheses, reached by a run or not. -/

open Sys2Proof Sys2Proof.Machine

/-! ### The machine as a whole -/

/-- A step with a command at the front of the queue is that command run on the queue's rest. -/
def Obligations.StepRunsTheFrontCommand : Prop :=
  ∀ (s : State) (c : Instr) (rest : List Instr), s.pending = c :: rest → step s = exec c { s with pending := rest }

/-- With no command waiting, one microsecond passes; that it does is the model's choice (log entry 1). The time base counts it
(R148) and every running timer loses it. Nothing else changes, and nothing at all while RESET_N is asserted (R155). -/
def Obligations.IdleStepPassesOneMicrosecond : Prop :=
  ∀ s : State, s.pending = [] →
    (s.resetAsserted = true → step s = .next s)
    ∧ (s.resetAsserted = false → ∃ t, step s = .next t
        ∧ t.timeBase = s.timeBase + 1
        ∧ (∀ c, t.channel c = { s.channel c with timer := (s.channel c).timer.map fun left => left - 1 })
        ∧ (∀ b, t.buffer b = (s.buffer b).map fun x =>
            { x with phase := match x.phase with
              | .opened idle limit => .opened (idle - 1) (limit - 1)
              | phase => phase })
        ∧ (∀ i, t.slot i = (s.slot i).map fun x =>
            { x with phase := match x.phase with
              | .ready data hold => .ready data (hold - 1)
              | .failed cause hold => .failed cause (hold - 1)
              | .fetching => .fetching })
        ∧ (∀ w, t.grantOf w = (s.grantOf w).map fun g => { g with timer := g.timer - 1 })
        ∧ t = { s with
            timeBase := t.timeBase, buffers := t.buffers, slots := t.slots, grants := t.grants, sc0 := t.sc0, sc1 := t.sc1 })

/-- No command stops the part: each answers a next state, also where its event cannot happen in the state (a stopped timer, a port that
is DOWN or has no frame), which is the model's choice (log entry 4). None touches the queue of waiting commands, into which commands
are placed from outside alone (log entry 6). -/
def Obligations.EveryCommandAnswersNext : Prop :=
  ∀ (c : Instr) (s : State), ∃ t, exec c s = .next t ∧ t.pending = s.pending

/-- Pin reset gives every block its pin reset values, and while RESET_N stays asserted no event is taken (R155, table after R156). -/
def Obligations.PinResetLeavesTheResetValues : Prop :=
  (∀ (c : Instr) (s : State), s.resetAsserted = true → c ≠ .pinReset → (∀ m, c ≠ .resetDeassertion m) → exec c s = .next s)
  ∧ ∀ s : State, ∃ t, exec .pinReset s = .next t
    ∧ t.resetAsserted = true
    ∧ (∀ w, t.window w = ⟨false, 0, 0, 0, .sc0, 0, ⟨false, false, false⟩, false⟩)
    ∧ (∀ w, t.grantOf w = none)
    ∧ (∀ b, t.buffer b = none) ∧ t.openOrder = [] ∧ t.sealList = [] ∧ t.openCounter = 0
    ∧ (∀ i, t.slot i = none) ∧ t.ticketCounter = 1
    ∧ (∀ c, (t.channel c).state = .idle ∧ (t.channel c).queue = [] ∧ (t.channel c).timer = none
        ∧ (t.channel c).streak = 0 ∧ (t.channel c).number = 0)
    ∧ (∀ p, t.port p = ⟨false, [], [], 0, .idle, 0, ⟨0, 0, 0, 0, 0, 0, 0, 0, 0, 0, 0⟩⟩)
    ∧ t.params = ⟨5000, 2000, 20, 50, 10, 2, 4, 2, none⟩
    ∧ t.restart = none ∧ t.timeBase = 0
    ∧ t.log = [] ∧ t.sequence = 0 ∧ t.overflow = 0 ∧ t.notice = .armed ∧ t.counters = ⟨0, 0, 0, 0, 0, 0, 0, 0⟩
    ∧ t.pending = s.pending

/-- At the deassertion the management set becomes the one member the straps name, 0 read as 31; parameters take their defaults,
restart is not pending, the time base starts from 0, and the part takes events; nothing else changes (R143, R156). -/
def Obligations.DeassertionSamplesTheStraps : Prop :=
  ∀ (s : State) (mgid : BitVec 5), s.resetAsserted = true →
    ∃ t, exec (.resetDeassertion mgid) s = .next t
      ∧ t.resetAsserted = false
      ∧ (∀ q : Nat, q < 32 → inSet t.managers q = decide (q = if mgid = 0 then 31 else mgid.toNat))
      ∧ t.params = ⟨5000, 2000, 20, 50, 10, 2, 4, 2, none⟩
      ∧ t.restart = none ∧ t.timeBase = 0
      ∧ t = { s with
          resetAsserted := false, managers := t.managers, params := t.params, restart := t.restart, timeBase := t.timeBase }

/-! ### Link ports -/

/-- An arrival at an UP port is an overrun, a CRC drop, a misrouted drop, or joins the inbound queue, by the first check that
fails; the two drops owe a credit, which an IDLE transmitter sends at once (R128, R133). -/
def Obligations.ArrivalIsCheckedInOrder : Prop :=
  ∀ (s : State) (p : PortId) (f : List Byte),
    s.resetAsserted = false → (s.port p).up = true → (s.port p).lawful →
    let q := s.port p
    let dropped := fun (k : PortCounters) =>
      if q.transmitter = .idle then
        s.setPort p { q with owed := 0, transmitter := .sendingCredit (q.owed + 1), counters := k }
      else s.setPort p { q with owed := q.owed + 1, counters := k }
    let intact := 20 ≤ f.length ∧ f.length ≤ 84 ∧ f = withTrailer (f.take (f.length - 4))
    (q.inbound.length + q.owed = 8 →
      exec (.frameArrival p f) s = .next
        ((s.setPort p { q with counters := { q.counters with overruns := bump q.counters.overruns } }).append
          (.frameOverrun p)).placeNotice)
    ∧ (q.inbound.length + q.owed < 8 → ¬ intact →
        exec (.frameArrival p f) s = .next
          (dropped { q.counters with crcDrops := bump q.counters.crcDrops }).placeNotice)
    ∧ (q.inbound.length + q.owed < 8 → intact → frameDest f ≠ 0 →
        exec (.frameArrival p f) s = .next
          (dropped { q.counters with misrouted := bump q.counters.misrouted }).placeNotice)
    ∧ (q.inbound.length + q.owed < 8 → intact → frameDest f = 0 →
        exec (.frameArrival p f) s = .next (s.setPort p { q with inbound := q.inbound ++ [f] }).placeNotice)

/-- Link-up of a DOWN port makes it UP with everything empty and appends LINK_UP; link-down of an UP port discards what is queued,
in transmission or owed and appends LINK_DOWN; the counters stay, and a second report changes nothing (R125, R126). -/
def Obligations.LinkReportsMoveThePort : Prop :=
  ∀ (s : State) (p : PortId), s.resetAsserted = false → s.noticeWaits = true →
    ((s.port p).up = false → exec (.linkUp p) s = .next
      ((s.setPort p ⟨true, [], [], 0, .idle, 0, (s.port p).counters⟩).append (.linkUp p)).placeNotice)
    ∧ ((s.port p).up = true → exec (.linkUp p) s = .next s)
    ∧ ((s.port p).up = true → exec (.linkDown p) s = .next
        ((s.setPort p ⟨false, [], [], 0, .idle, 0, (s.port p).counters⟩).append (.linkDown p)).placeNotice)
    ∧ ((s.port p).up = false → exec (.linkDown p) s = .next s)

/-- The end of a transmission: the frame sent leaves, a CREDIT frame having had no place; the transmitter starts the next head
with the credits owed, or a CREDIT frame when credits alone are owed, or goes IDLE (R132, R133). -/
def Obligations.TransmissionEndStartsTheNextFrame : Prop :=
  ∀ (s : State) (p : PortId) (rest : List OutFrame),
    s.resetAsserted = false → (s.port p).up = true →
    ((s.port p).transmitter = .sendingHead ∧ (s.port p).outbound.tail = rest
      ∨ (∃ n, (s.port p).transmitter = .sendingCredit n) ∧ (s.port p).outbound = rest) →
    let q := s.port p
    (∀ r rs, rest = r :: rs → exec (.transmissionEnd p) s = .next
      (s.setPort p { q with
        outbound := { r with creditReturn := q.owed } :: rs, owed := 0, transmitter := .sendingHead }).placeNotice)
    ∧ (rest = [] → 1 ≤ q.owed → exec (.transmissionEnd p) s = .next
        (s.setPort p { q with outbound := [], owed := 0, transmitter := .sendingCredit q.owed }).placeNotice)
    ∧ (rest = [] → q.owed = 0 → exec (.transmissionEnd p) s = .next
        (s.setPort p { q with outbound := [], transmitter := .idle }).placeNotice)

/-- Taking a frame: it leaves the inbound queue, one credit more is owed, the taking is counted, one place is reserved; then the
response fills the place, a REFUSE is counted, an IDLE transmitter starts it with the credits owed, and a notice may follow
(R131, R138). `serve` stands for what the decoder and the serving block do in between; it leaves the port. -/
def Obligations.TakingMovesTheFrameAndPlacesTheResponse : Prop :=
  ∀ (s u : State) (p : PortId) (command : Instr) (f : List Byte) (body : Body) (serve : List Byte → State → Served),
    s.offers p command f → (s.port p).lawful → serve f (s.beginTaking p) = (u, body) →
    u.port p = (s.beginTaking p).port p →
    let q := s.port p
    let taken : PortCounters := { q.counters with framesTaken := bump q.counters.framesTaken }
    s.beginTaking p = s.setPort p { q with
        reserved := 1, inbound := q.inbound.tail, owed := q.owed + 1, counters := taken }
    ∧ s.takeHead p command serve = .next (u.respond p f body).placeNotice
    ∧ u.respond p f body = u.setPort p
        (if q.transmitter = .idle then
          { q with
            inbound := q.inbound.tail, outbound := [⟨frameSource f, frameTag f, q.owed + 1, body⟩], owed := 0
            transmitter := .sendingHead, counters := taken.countBody body }
        else
          { q with
            inbound := q.inbound.tail, outbound := q.outbound ++ [⟨frameSource f, frameTag f, 0, body⟩]
            owed := q.owed + 1, counters := taken.countBody body })

/-- The response law: every frame taken, by whatever command, leaves the inbound queue and gets exactly one response on its port,
addressed to its source with its tag; only a NOTICE may stand behind it (R135, R136). -/
def Obligations.EveryTakenFrameGetsOneResponse : Prop :=
  ∀ (s : State) (p : PortId) (command : Instr) (f : List Byte), s.offers p command f → (s.port p).lawful →
    ∃ (t : State) (body : Body) (notices : List (Byte × Byte × Body)),
      exec command s = .next t
      ∧ (t.port p).inbound = (s.port p).inbound.tail
      ∧ (t.port p).outbound.map (fun r => (r.dest, r.tag, r.body))
          = (s.port p).outbound.map (fun r => (r.dest, r.tag, r.body)) ++ (frameSource f, frameTag f, body) :: notices
      ∧ (notices = [] ∨ ∃ q depth newest, notices = [(q, 0, .notice depth newest)])

/-- A PENDING notice is placed on the port and for the requester of NOTICE_TARGET as soon as that port is UP with a free place,
carrying the log's depth and newest sequence, and becomes SENT; otherwise nothing happens (R134, R162). -/
def Obligations.PendingNoticeIsPlaced : Prop :=
  ∀ (s : State) (q : ReqId) (p : PortId) (newest : EventRecord),
    s.params.noticeTarget = some (q, p) → s.log.getLast? = some newest →
    (s.notice = .pending → (s.port p).up = true → (s.port p).outbound.length + (s.port p).reserved < 8 →
      s.placeNotice = { s.setPort p ((s.port p).place ⟨q.setWidth 8, 0, 0, .notice s.log.length newest.sequence⟩) with
        notice := .sent })
    ∧ ((s.notice ≠ .pending ∨ (s.port p).up = false ∨ 8 ≤ (s.port p).outbound.length + (s.port p).reserved) →
        s.placeNotice = s)

/-! ### The checks of the request decoder -/

/-- Check 1 spelled out by kind code (R7, R168, R170), and its refusal for every command that takes a frame. A frame of no request
kind always fails it. -/
def Obligations.IllFormedFrameIsRefused : Prop :=
  (∀ f : List Byte, 20 ≤ f.length →
    (frameWellFormed f = true ↔
      (1 ≤ (byteAt f 1).toNat ∧ (byteAt f 1).toNat ≤ 31) ∧ fieldAt f 13 3 = 0
      ∧ ((byteAt f 0 = 1 ∧ (1 ≤ fieldAt f 6 2 ∧ fieldAt f 6 2 ≤ 64) ∧ f.length = 20 ∧ byteAt f 5 = 0 ∧ byteAt f 12 = 0)
        ∨ (byteAt f 0 = 2 ∧ (1 ≤ fieldAt f 6 2 ∧ fieldAt f 6 2 ≤ 64) ∧ f.length = 20 + fieldAt f 6 2
            ∧ byteAt f 5 = 0 ∧ byteAt f 12 = 0)
        ∨ ((byteAt f 0 = 3 ∨ byteAt f 0 = 5 ∨ byteAt f 0 = 6) ∧ fieldAt f 6 2 = 0 ∧ f.length = 20
            ∧ byteAt f 5 = 0 ∧ byteAt f 12 = 0)
        ∨ (byteAt f 0 = 4 ∧ fieldAt f 6 2 = 0 ∧ f.length = 20 ∧ byteAt f 5 = 0 ∧ fieldAt f 8 4 = 0)
        ∨ (byteAt f 0 = 7 ∧ fieldAt f 6 2 = 0 ∧ f.length = 20 ∧ (byteAt f 5 = 0 ∨ byteAt f 5 = 1)
            ∧ fieldAt f 8 4 = 0 ∧ byteAt f 12 = 0)
        ∨ (byteAt f 0 = 8 ∧ (1 ≤ fieldAt f 6 2 ∧ fieldAt f 6 2 ≤ 41) ∧ f.length = 20 + fieldAt f 6 2
            ∧ byteAt f 5 = 0 ∧ fieldAt f 8 4 = 0 ∧ byteAt f 12 = 0))))
  ∧ (∀ (s : State) (p : PortId) (command : Instr) (f : List Byte),
      s.offers p command f → frameWellFormed f = false → exec command s = .next (s.refusing p f .badFrame))
  ∧ ∀ (s : State) (p : PortId) (f : List Byte),
      s.offers p (.unknownFrameKind p) f → exec (.unknownFrameKind p) s = .next (s.refusing p f .badFrame)

/-- Check 2: every well-formed data request is refused NOT_READY while restart is pending, whatever the window table says (R8). -/
def Obligations.DataRequestsAreNotReadyDuringRestart : Prop :=
  ∀ (s : State) (p : PortId) (command : Instr) (f : List Byte),
    s.offers p command f → frameWellFormed f = true → s.restart ≠ none →
    (command ∈ [.read p, .write p, .clear p, .collect p, .grant p, .release p, .flush p, .flushWithWait p]) →
    exec command s = .next (s.refusing p f .notReady)

/-- Decode: the entry that matches is the one valid entry whose requester set and link range contain the request, and its page is
the store base page plus the distance from the link base page (R2). -/
def Obligations.DecodeFindsTheOneWindow : Prop :=
  ∀ (s : State) (q : ReqId) (f : List Byte), s.windowsLawful →
    let page := frameAddress f / 256
    let fits := fun (w : WindowId) =>
      (s.window w).valid = true ∧ inSet (s.window w).requesters q.toNat = true
        ∧ (s.window w).linkBase.toNat ≤ page ∧ page < (s.window w).linkBase.toNat + (s.window w).pageCount
    frameLinkPage f = page ∧ frameOffset f = frameAddress f % 256
    ∧ (∀ v w, fits v → fits w → v = w)
    ∧ (∀ w, s.matchWindow q (frameLinkPage f) = some w ↔ fits w)
    ∧ (s.matchWindow q (frameLinkPage f) = none ↔ ∀ w, ¬ fits w)
    ∧ ∀ w, fits w →
        (s.pageOf w f).toNat = (s.window w).storeBase.toNat + (page - (s.window w).linkBase.toNat)

/-- Checks 3 to 7: the first that fails names the refusal, and the request changes nothing but by its taking (R4, R10 to R16). -/
def Obligations.FirstFailingCheckNamesTheRefusal : Prop :=
  ∀ (s : State) (p : PortId) (f : List Byte) (q : ReqId) (w : WindowId),
    (∀ command, command ∈ [.read p, .write p, .clear p, .grant p, .release p] →
      s.admits p command f q → s.matchWindow q (frameLinkPage f) = none →
      exec command s = .next (s.refusing p f .noWindow))
    ∧ (s.resolves p (.read p) f q w →
        ((s.window w).rights.read = false → exec (.read p) s = .next (s.refusing p f .noRight))
        ∧ ((s.window w).rights.read = true → 256 < frameOffset f + frameLength f →
            exec (.read p) s = .next (s.refusing p f .range))
        ∧ ((s.window w).rights.read = true → frameOffset f + frameLength f ≤ 256 →
            (s.channel (s.channelOf w)).state.online = false → exec (.read p) s = .next (s.refusing p f .offline)))
    ∧ (s.resolves p (.write p) f q w →
        ((s.window w).rights.write = false → exec (.write p) s = .next (s.refusing p f .noRight))
        ∧ ((s.window w).rights.write = true → ¬ s.mayChange q w → exec (.write p) s = .next (s.refusing p f .noGrant))
        ∧ ((s.window w).rights.write = true → s.mayChange q w →
            (s.channel (s.channelOf w)).state.online = false → exec (.write p) s = .next (s.refusing p f .offline)))
    ∧ (s.resolves p (.clear p) f q w →
        let first := (s.pageOf w f).toNat / 16 * 16
        let inside := (s.window w).storeBase.toNat ≤ first
          ∧ first + 15 < (s.window w).storeBase.toNat + (s.window w).pageCount
        ((s.window w).rights.clear = false → exec (.clear p) s = .next (s.refusing p f .noRight))
        ∧ ((s.window w).rights.clear = true → ¬ inside → exec (.clear p) s = .next (s.refusing p f .range))
        ∧ ((s.window w).rights.clear = true → inside → ¬ s.mayChange q w →
            exec (.clear p) s = .next (s.refusing p f .noGrant))
        ∧ ((s.window w).rights.clear = true → inside → s.mayChange q w →
            (s.channel (s.channelOf w)).state.online = false → exec (.clear p) s = .next (s.refusing p f .offline)))
    ∧ (s.resolves p (.grant p) f q w → (s.window w).rights.write = false → (s.window w).rights.clear = false →
        exec (.grant p) s = .next (s.refusing p f .noRight))

/-! ### READ, WRITE and CLEAR -/

/-- A READ whose every byte is staged is answered DATA from the staged bytes at once: no slot, no ticket, no FETCH (R52). -/
def Obligations.ReadOfStagedBytesAnswersData : Prop :=
  ∀ (s : State) (p : PortId) (f : List Byte) (q : ReqId) (w : WindowId) (bytes : List Byte),
    s.resolves p (.read p) f q w → (s.window w).rights.read = true → frameOffset f + frameLength f ≤ 256 →
    (s.channel (s.channelOf w)).state.online = true → bytes.length = frameLength f →
    (∀ i, i < frameLength f → s.overlayAt (s.channelOf w) (s.pageOf w f) (frameOffset f + i) = bytes[i]?) →
    exec (.read p) s = .next (afterTaking p f
      ((s.beginTaking p).setCounters { s.counters with overlayHits := bump s.counters.overlayHits }, .data bytes))

/-- Any other READ with a slot and a queue place for it is given the lowest FREE slot, the next ticket and a FETCH at the tail of
the queue, which an IDLE channel starts at once, and is answered DEFER (R50, R51, R53). -/
def Obligations.ReadOfUnstagedBytesIsDeferred : Prop :=
  ∀ (s : State) (p : PortId) (f : List Byte) (q : ReqId) (w : WindowId) (i : SlotId),
    s.resolves p (.read p) f q w → (s.window w).rights.read = true → frameOffset f + frameLength f ≤ 256 →
    (s.channel (s.channelOf w)).state.online = true → (s.channel (s.channelOf w)).lawful →
    (∃ k, k < frameLength f ∧ s.overlayAt (s.channelOf w) (s.pageOf w f) (frameOffset f + k) = none) →
    s.ownedSlots q < s.params.slotsPerReq → s.slot i = none → (∀ j, j < i → s.slot j ≠ none) →
    (s.channel (s.channelOf w)).queue.length < 16 →
    let c := s.channelOf w
    let ch := s.channel c
    let kind := OpKind.fetch (s.pageOf w f) (frameOffset f) (frameLength f) i
    let read : ReadWork := ⟨c, s.pageOf w f, frameOffset f, frameLength f,
      (List.range (frameLength f)).map (fun k => s.overlayAt c (s.pageOf w f) (frameOffset f + k)),
      if ch.state = .idle then some (ch.number + 1) else none⟩
    exec (.read p) s = .next (afterTaking p f
      ({ (((s.beginTaking p).setSlot i (some ⟨s.issuedTicket, q, .read read, .fetching⟩)).setChannel c
          (ch.withOp kind (.fetch (s.pageOf w f) (frameOffset f) (frameLength f)) s.params.opTimeout)).setCounters
            { s.counters with readsDeferred := bump s.counters.readsDeferred } with
          ticketCounter := nextTicket s.issuedTicket },
        .defer s.issuedTicket))

/-- The ticket issued is the first number from the counter upward that no live slot holds, 255 followed by 1 (R50). -/
def Obligations.IssuedTicketIsTheFirstNotHeld : Prop :=
  ∀ (s : State) (i : SlotId), s.ticketCounter ≠ 0 → s.slot i = none →
    ∃ k, k < 8 ∧ s.issuedTicket = nextTicket^[k] s.ticketCounter
      ∧ (∀ j, s.ticketOf j ≠ some s.issuedTicket)
      ∧ (∀ m, m < k → ∃ j, s.ticketOf j = some (nextTicket^[m] s.ticketCounter))
      ∧ s.issuedTicket ≠ 0
      ∧ (nextTicket s.issuedTicket).toNat = if s.issuedTicket.toNat = 255 then 1 else s.issuedTicket.toNat + 1

/-- The overlay at a position is the byte of the newest live buffer of the page that tags it, and none when no live buffer of the
page does (R44). -/
def Obligations.OverlayShowsTheNewestStagedByte : Prop :=
  ∀ (s : State) (c : ChannelId) (pg : BitVec 16) (pos : Nat) (v : Byte),
    (∀ older newer b x, s.openOrder = older ++ b :: newer → s.buffer b = some x → x.channel = c → x.page = pg →
      cellAt x.staged pos = some v →
      (∀ b' ∈ newer, ∀ x', s.buffer b' = some x' → x'.channel = c → x'.page = pg → cellAt x'.staged pos = none) →
      s.overlayAt c pg pos = some v)
    ∧ ((∀ b ∈ s.openOrder, ∀ x, s.buffer b = some x → x.channel = c → x.page = pg → cellAt x.staged pos = none) →
        s.overlayAt c pg pos = none)

/-- A WRITE to a page with an OPEN buffer is merged into it up to the page end: bytes, writer, grant window, idle timer; a full tag
set seals it; a grant it needed is used; the ACK carries the accepted length (R13, R27, R29, R115). -/
def Obligations.WriteMergesIntoTheOpenBuffer : Prop :=
  ∀ (s : State) (p : PortId) (f : List Byte) (q : ReqId) (w : WindowId) (b : BufferId) (x : Buffer) (idle limit : Micros),
    s.resolves p (.write p) f q w → (s.window w).rights.write = true → s.mayChange q w →
    (s.channel (s.channelOf w)).state.online = true →
    b ∈ s.openOrder → s.buffer b = some x → x.channel = s.channelOf w → x.page = s.pageOf w f →
    x.phase = .opened idle limit →
    (∀ b' x', s.buffer b' = some x' → x'.channel = s.channelOf w → x'.page = s.pageOf w f → x'.isOpen = true → b' = b) →
    let n := min (frameLength f) (256 - frameOffset f)
    let y : Buffer := { x with
      staged := setCells x.staged (frameOffset f) ((framePayload f).take n)
      writers := joinSet x.writers q.toNat
      grantWindows := if (s.window w).grantRequired then joinSet x.grantWindows w else x.grantWindows
      phase := .opened s.params.coalesceIdle limit }
    let merged := (s.beginTaking p).setBuffer b (some y)
    exec (.write p) s = .next (afterTaking p f
      ((if y.staged.length = 256 then merged.sealBuffer b else merged).grantUsed w q, .ack n))

/-- A WRITE to a page with no OPEN and fewer than two live buffers opens the lowest FREE buffer with the open counter's value as
stamp and both timers started, and is merged into it (R13, R27, R28, R29). -/
def Obligations.WriteOpensTheLowestFreeBuffer : Prop :=
  ∀ (s : State) (p : PortId) (f : List Byte) (q : ReqId) (w : WindowId) (b : BufferId),
    s.resolves p (.write p) f q w → (s.window w).rights.write = true → s.mayChange q w →
    (s.channel (s.channelOf w)).state.online = true →
    (s.liveOn (s.channelOf w) (s.pageOf w f)).length < 2 →
    (∀ b' ∈ s.liveOn (s.channelOf w) (s.pageOf w f), s.bufferHas b' Buffer.isOpen = false) →
    s.buffer b = none → (∀ b', b' < b → s.buffer b' ≠ none) →
    let n := min (frameLength f) (256 - frameOffset f)
    let y : Buffer := ⟨s.channelOf w, s.pageOf w f, s.openCounter,
      setCells [] (frameOffset f) ((framePayload f).take n), joinSet 0 q.toNat,
      if (s.window w).grantRequired then joinSet 0 w else 0,
      .opened s.params.coalesceIdle (s.params.openLimit * 1000), 0⟩
    exec (.write p) s = .next (afterTaking p f
      ({ (s.beginTaking p).setBuffer b (some y) with
          openOrder := s.openOrder ++ [b], openCounter := s.openCounter + 1 }.grantUsed w q, .ack n))

/-- BUSY refusals of WRITE and READ: a page with two buffers that are not OPEN changes nothing; a pool without a FREE buffer seals
its oldest OPEN one, if any; a READ without slot or queue place changes nothing. Each is counted (R27, R30, R53, R163). -/
def Obligations.BusyRefusals : Prop :=
  ∀ (s : State) (p : PortId) (f : List Byte) (q : ReqId) (w : WindowId),
    (s.channel (s.channelOf w)).state.online = true →
    let counted := fun (t : State) => t.setCounters { t.counters with busyRefusals := bump t.counters.busyRefusals }
    let live := s.liveOn (s.channelOf w) (s.pageOf w f)
    (s.resolves p (.write p) f q w → (s.window w).rights.write = true → s.mayChange q w →
      (∀ b ∈ live, s.bufferHas b Buffer.isOpen = false) →
      (2 ≤ live.length → exec (.write p) s = .next (afterTaking p f (counted (s.beginTaking p), .refuse .busy)))
      ∧ (live.length < 2 → (∀ b, s.buffer b ≠ none) →
          (∀ b, s.openOrder.find? (fun b => s.bufferHas b Buffer.isOpen) = some b →
            exec (.write p) s = .next (afterTaking p f (counted ((s.beginTaking p).sealBuffer b), .refuse .busy)))
          ∧ (s.openOrder.find? (fun b => s.bufferHas b Buffer.isOpen) = none →
              exec (.write p) s = .next (afterTaking p f (counted (s.beginTaking p), .refuse .busy)))))
    ∧ (s.resolves p (.read p) f q w → (s.window w).rights.read = true → frameOffset f + frameLength f ≤ 256 →
        (∃ k, k < frameLength f ∧ s.overlayAt (s.channelOf w) (s.pageOf w f) (frameOffset f + k) = none) →
        (s.params.slotsPerReq ≤ s.ownedSlots q ∨ (∀ i, s.slot i ≠ none)
          ∨ 16 ≤ (s.channel (s.channelOf w)).queue.length) →
        exec (.read p) s = .next (afterTaking p f (counted (s.beginTaking p), .refuse .busy)))

/-- A CLEAR that passes checks 1 to 7 is refused CONFLICT while a live buffer lies in its sector, BUSY when the queue is full, and
else joins the queue and is answered ACK(16); a grant it needed is used (R92, R115). -/
def Obligations.ClearJoinsTheQueueOfAFreeSector : Prop :=
  ∀ (s : State) (p : PortId) (f : List Byte) (q : ReqId) (w : WindowId),
    s.resolves p (.clear p) f q w → (s.window w).rights.clear = true →
    (s.window w).storeBase.toNat ≤ (s.pageOf w f).toNat / 16 * 16 →
    (s.pageOf w f).toNat / 16 * 16 + 15 < (s.window w).storeBase.toNat + (s.window w).pageCount →
    s.mayChange q w → (s.channel (s.channelOf w)).state.online = true → (s.channel (s.channelOf w)).lawful →
    let c := s.channelOf w
    let sector : BitVec 12 := BitVec.ofNat 12 ((s.pageOf w f).toNat / 16)
    let conflict := ∃ b x, b ∈ s.openOrder ∧ s.buffer b = some x ∧ x.channel = c
      ∧ x.page.toNat / 16 = (s.pageOf w f).toNat / 16
    (conflict → exec (.clear p) s = .next (s.refusing p f .conflict))
    ∧ (¬ conflict → (s.channel c).queue.length = 16 →
        exec (.clear p) s = .next (afterTaking p f
          ((s.beginTaking p).setCounters { s.counters with busyRefusals := bump s.counters.busyRefusals }, .refuse .busy)))
    ∧ (¬ conflict → (s.channel c).queue.length < 16 →
        exec (.clear p) s = .next (afterTaking p f
          (((s.beginTaking p).setChannel c
            ((s.channel c).withOp (.clear sector q) (.clear sector) s.params.opTimeout)).grantUsed w q, .ack 16)))

/-! ### COLLECT, GRANT, RELEASE and FLUSH -/

/-- COLLECT answers from the slot that holds the ticket: NO_TICKET unless it is the requester's own, DEFER while it is FETCHING,
else the outcome, which frees it (R60). -/
def Obligations.CollectAnswersFromTheSlot : Prop :=
  ∀ (s : State) (p : PortId) (f : List Byte) (q : ReqId), s.admits p (.collect p) f q → s.ticketsLawful →
    (frameTicket f = 0 ∨ (∀ i, s.ticketOf i ≠ some (frameTicket f)) →
      exec (.collect p) s = .next (s.refusing p f .noTicket))
    ∧ ∀ (i : SlotId) (x : Slot), s.slot i = some x → x.ticket = frameTicket f →
      (x.requester ≠ q → exec (.collect p) s = .next (s.refusing p f .noTicket))
      ∧ (x.requester = q →
          (x.phase = .fetching →
            exec (.collect p) s = .next (afterTaking p f (s.beginTaking p, .defer x.ticket)))
          ∧ (∀ data hold r, x.phase = .ready data hold → x.work = .read r →
              exec (.collect p) s = .next (afterTaking p f ((s.beginTaking p).setSlot i none, .data data)))
          ∧ (∀ data hold m, x.phase = .ready data hold → x.work = .sync m →
              exec (.collect p) s = .next (afterTaking p f ((s.beginTaking p).setSlot i none, .ack 0)))
          ∧ (∀ hold, x.phase = .failed .storeFailed hold →
              exec (.collect p) s = .next (afterTaking p f ((s.beginTaking p).setSlot i none, .refuse .storeError)))
          ∧ (∀ hold, x.phase = .failed .channelOffline hold →
              exec (.collect p) s = .next (afterTaking p f ((s.beginTaking p).setSlot i none, .refuse .offline))))

/-- GRANT answers ACK(0) where none is needed, takes or renews a grant that is free or its own, and is refused GRANT_HELD else;
RELEASE by the holder ends the grant and counts the buffers sealed, and is refused NO_GRANT else (R112, R114, R116). -/
def Obligations.GrantAndReleaseAnswerByTheRecord : Prop :=
  ∀ (s : State) (p : PortId) (f : List Byte) (q : ReqId) (w : WindowId),
    (s.resolves p (.grant p) f q w → ((s.window w).rights.write = true ∨ (s.window w).rights.clear = true) →
      ((s.window w).grantRequired = false →
        exec (.grant p) s = .next (afterTaking p f (s.beginTaking p, .ack 0)))
      ∧ ((s.window w).grantRequired = true → (s.holderOf w = none ∨ s.holderOf w = some q) →
          exec (.grant p) s = .next (afterTaking p f
            ((s.beginTaking p).setGrant w (some ⟨q, s.params.grantLife * 1000⟩), .ack 1)))
      ∧ (∀ h, (s.window w).grantRequired = true → s.holderOf w = some h → h ≠ q →
          exec (.grant p) s = .next (s.refusing p f .grantHeld)))
    ∧ (s.resolves p (.release p) f q w →
        (s.holderOf w = some q →
          exec (.release p) s = .next (afterTaking p f
            ((s.beginTaking p).endGrant w,
              .ack (s.openOrder.filter fun b => s.bufferHas b fun x => x.isOpen && inSet x.grantWindows w).length)))
        ∧ (s.holderOf w ≠ some q → exec (.release p) s = .next (s.refusing p f .noGrant)))

/-- The end of a grant (R36, R117): the record has no holder, the OPEN buffers written under the grant are sealed one after the other
in open-stamp order, and the window is removed from every live buffer. Under the laws of pool and channels every live buffer stays live
with its page, bytes and writers; those sealed are on their way to the store, or HELD where their channel is not online, and the other
OPEN buffers stay OPEN with their timers. Other grants and the event log stay. -/
def Obligations.GrantEndSealsItsBuffers : Prop :=
  ∀ (s : State) (w : WindowId),
    let under := s.openOrder.filter fun b => s.bufferHas b fun x => x.isOpen && inSet x.grantWindows w
    let sealed := under.foldl State.sealBuffer (s.setGrant w none)
    let t := s.endGrant w
    t = { sealed with buffers := t.buffers }
    ∧ (∀ b, t.buffer b = (sealed.buffer b).map fun x => { x with grantWindows := leaveSet x.grantWindows w })
    ∧ (∀ (m : BitVec 24) (v : WindowId), inSet (leaveSet m w) v = (inSet m v && decide (v ≠ w)))
    ∧ t.grantOf w = none
    ∧ (∀ v, v ≠ w → t.grantOf v = s.grantOf v)
    ∧ t.log = s.log ∧ t.overflow = s.overflow
    ∧ (s.queuesLawful → s.listsLawful → s.channelsLawful →
        (∀ b, s.buffer b = none → t.buffer b = none)
        ∧ ∀ b x, s.buffer b = some x → ∃ y, t.buffer b = some y
          ∧ y.channel = x.channel ∧ y.page = x.page ∧ y.stamp = x.stamp ∧ y.staged = x.staged ∧ y.writers = x.writers
          ∧ y.grantWindows = leaveSet x.grantWindows w
          ∧ (x.isOpen = true → inSet x.grantWindows w = false → y.phase = x.phase ∧ y.attempts = x.attempts)
          ∧ (x.isOpen = true → inSet x.grantWindows w = true →
              ((s.channel x.channel).state.online = true → y.phase.committing = true)
              ∧ ((s.channel x.channel).state.online = false → y.phase = .held .channelOffline)))

/-- FLUSH seals the requester's OPEN buffers, and SEAL_ALL every OPEN buffer, in open-stamp order, and answers their number
(R34, R106). -/
def Obligations.FlushAndSealAllSealInOrder : Prop :=
  ∀ (s : State) (p : PortId) (f : List Byte) (bs : List BufferId),
    (∀ q, s.admits p (.flush p) f q →
      bs = s.openOrder.filter (fun b => s.bufferHas b fun x => x.isOpen && inSet x.writers q.toNat) →
      exec (.flush p) s = .next (afterTaking p f (bs.foldl State.sealBuffer (s.beginTaking p), .ack bs.length)))
    ∧ (s.obeys p (.sealAll p) f [] → s.restart = none →
        bs = s.openOrder.filter (fun b => s.bufferHas b Buffer.isOpen) →
        exec (.sealAll p) s = .next
          (repliedTo p f (bs.foldl State.sealBuffer (s.beginTaking p)) .ok [BitVec.ofNat 8 bs.length]))

/-- FLUSH with wait: STORE_ERROR while the requester has data that cannot be committed, ACK(0) with nothing to wait for, BUSY
without a slot, else its OPEN buffers are sealed and a SYNC slot waits on them and its other buffers on their way (R64, R65). -/
def Obligations.FlushWithWaitTakesTheFirstCase : Prop :=
  ∀ (s : State) (p : PortId) (f : List Byte) (q : ReqId), s.admits p (.flushWithWait p) f q →
    let mine := fun (test : Buffer → Bool) =>
      s.openOrder.filter fun b => s.bufferHas b fun x => test x && inSet x.writers q.toNat
    let stuck := ∃ b x, b ∈ s.openOrder ∧ s.buffer b = some x ∧ inSet x.writers q.toNat = true
      ∧ (x.isHeld = true ∨ x.isOpen = true ∧ (s.channel x.channel).state.online = false)
    (stuck → exec (.flushWithWait p) s = .next (s.refusing p f .storeError))
    ∧ (¬ stuck → mine (fun x => !x.isHeld) = [] →
        exec (.flushWithWait p) s = .next (afterTaking p f (s.beginTaking p, .ack 0)))
    ∧ (¬ stuck → mine (fun x => !x.isHeld) ≠ [] →
        (s.params.slotsPerReq ≤ s.ownedSlots q ∨ ∀ i, s.slot i ≠ none) →
        exec (.flushWithWait p) s = .next (afterTaking p f
          ((s.beginTaking p).setCounters { s.counters with busyRefusals := bump s.counters.busyRefusals }, .refuse .busy)))
    ∧ ∀ i : SlotId, ¬ stuck → mine (fun x => !x.isHeld) ≠ [] → s.ownedSlots q < s.params.slotsPerReq →
        s.slot i = none → (∀ j, j < i → s.slot j ≠ none) →
        ∃ waitSet : BitVec 12, (∀ b : BufferId, inSet waitSet b = decide (b ∈ mine fun x => !x.isHeld))
          ∧ exec (.flushWithWait p) s = .next (afterTaking p f
            ({ ((mine Buffer.isOpen).foldl State.sealBuffer (s.beginTaking p)).setSlot i
                (some ⟨s.issuedTicket, q, .sync waitSet, .fetching⟩) with ticketCounter := nextTicket s.issuedTicket },
              .defer s.issuedTicket))

/-! ### Management operations -/

/-- Codes and layouts of frames. Arrived: the header's fields, most significant byte first (R167), and the command that takes the frame,
named by kind code and operation code (R171, R173); that a FLUSH goes by its wait bit alone and a MGMT frame without an operation code
to UNKNOWN_MGMT_OPERATION, well-formed or not, is DEDUCED (log entry 5). Sent: kind code, source 0, destination, tag, credit return,
length, ticket and payload of each kind, with the codes of reasons and results (R167, R168, R170, R173), the CRC-32 trailer (R169), and
which frame the transmitter sends (R132, R133); that the lanes are a function of the state is log entry 12. -/
def Obligations.FrameCodesAndLayouts : Prop :=
  (∀ x : Nat,
    bytesOf 1 x = [BitVec.ofNat 8 x]
    ∧ bytesOf 2 x = [BitVec.ofNat 8 (x / 256), BitVec.ofNat 8 x]
    ∧ bytesOf 3 x = [BitVec.ofNat 8 (x / 65536), BitVec.ofNat 8 (x / 256), BitVec.ofNat 8 x]
    ∧ bytesOf 4 x
      = [BitVec.ofNat 8 (x / 16777216), BitVec.ofNat 8 (x / 65536), BitVec.ofNat 8 (x / 256), BitVec.ofNat 8 x])
  ∧ (∀ f : List Byte, 20 ≤ f.length →
    let byte := fun (i : Nat) => (byteAt f i).toNat
    (∀ i, i < f.length → f[i]? = some (byteAt f i))
    ∧ frameKind f = byteAt f 0 ∧ frameSource f = byteAt f 1 ∧ frameDest f = byteAt f 2 ∧ frameTag f = byteAt f 3
    ∧ frameFlags f = byteAt f 5
    ∧ frameLength f = byte 6 * 256 + byte 7
    ∧ frameAddress f = byte 8 * 16777216 + byte 9 * 65536 + byte 10 * 256 + byte 11
    ∧ frameTicket f = byteAt f 12
    ∧ framePayload f = (f.drop 16).take (f.length - 20))
  ∧ (∀ (p : PortId) (f : List Byte) (code : Byte) (rest : List Byte),
    (∀ kind command, (kind, command) ∈
        [(1, Instr.read p), (2, .write p), (3, .clear p), (4, .collect p), (5, .grant p), (6, .release p)] →
      (byteAt f 0).toNat = kind → takingCommand p f = command)
    ∧ ((byteAt f 0).toNat = 7 → takingCommand p f = if (byteAt f 5).getLsbD 0 then .flushWithWait p else .flush p)
    ∧ ((byteAt f 0).toNat = 0 ∨ 8 < (byteAt f 0).toNat → takingCommand p f = .unknownFrameKind p)
    ∧ ((byteAt f 0).toNat = 8 → framePayload f = [] → takingCommand p f = .unknownMgmtOperation p)
    ∧ ((byteAt f 0).toNat = 8 → framePayload f = code :: rest →
        (∀ op command, (op, command) ∈
            [(0x10, Instr.windowLoad p), (0x11, .windowClear p), (0x12, .windowRead p), (0x18, .grantRevoke p),
              (0x20, .bufferRead p), (0x21, .bufferRetry p), (0x22, .bufferDiscard p), (0x23, .sealAll p),
              (0x30, .channelOffline p), (0x31, .channelOnline p), (0x40, .eventsRead p), (0x41, .countersRead p),
              (0x42, .countersClear p), (0x50, .paramSet p), (0x51, .paramRead p), (0x52, .mgmtSetWrite p),
              (0x53, .statusRead p), (0x5F, .restart p)] →
          code.toNat = op → takingCommand p f = command)
        ∧ (mgmtShape code.toNat = none → takingCommand p f = .unknownMgmtOperation p)))
  ∧ (let sent := fun (kind dest tag : Byte) (credits : Nat) (ticket : Byte) (payload : List Byte) =>
      withTrailer ([kind, 0, dest, tag, BitVec.ofNat 8 credits, 0] ++ bytesOf 2 payload.length
        ++ [0, 0, 0, 0, ticket, 0, 0, 0] ++ payload)
    let reasonCode := fun (reason : Reason) => match reason with
      | .badFrame => (1 : Byte)
      | .notReady => 2
      | .notManager => 3
      | .noWindow => 4
      | .noRight => 5
      | .range => 6
      | .noGrant => 7
      | .grantHeld => 8
      | .offline => 9
      | .busy => 10
      | .conflict => 11
      | .noTicket => 12
      | .storeError => 13
    let resultCode := fun (result : MgmtResult) => match result with
      | .ok => (0 : Byte)
      | .badOperand => 1
      | .overlap => 2
      | .wrongState => 3
      | .emptySet => 4
      | .notReady => 5
    (∀ r : OutFrame, r.bytes = match r.body with
      | .data bytes => sent 0x81 r.dest r.tag r.creditReturn 0 bytes
      | .defer ticket => sent 0x82 r.dest r.tag r.creditReturn ticket []
      | .ack count => sent 0x83 r.dest r.tag r.creditReturn 0 [BitVec.ofNat 8 count]
      | .refuse reason => sent 0x84 r.dest r.tag r.creditReturn 0 [reasonCode reason]
      | .mgmtReply op result operand => sent 0x85 r.dest r.tag r.creditReturn 0 (op :: resultCode result :: operand)
      | .notice depth newest =>
        sent 0x86 r.dest r.tag r.creditReturn 0 (BitVec.ofNat 8 depth :: bytesOf 2 newest.toNat))
    ∧ ∀ q : Port,
      (q.transmitter = .idle → q.onLanes = none)
      ∧ (∀ r rest, q.transmitter = .sendingHead → q.outbound = r :: rest → q.onLanes = some r.bytes)
      ∧ ∀ n, q.transmitter = .sendingCredit n → q.onLanes = some (sent 0x87 0 0 n 0 []))
  ∧ (∀ bs : List Byte,
    let entering := bs.flatMap fun b => (List.range 8).map fun i => b.getLsbD i
    let remainder := entering.foldl (fun (r : BitVec 32) bit =>
      if r.msb = bit then r <<< 1 else r <<< 1 ^^^ 0x04C11DB7#32) (BitVec.allOnes 32)
    withTrailer bs = bs ++ bytesOf 4 (~~~ remainder.reverse).toNat)

/-- The checks of a MGMT frame in their order: authority, known code, restart, operand size, then an index, number, channel, selector
or count in its range; the first that fails answers, and nothing changes but by the taking (R9, R21, R22, R86, R90, R99, R100, R103,
R120, R141, R142, R160, R164). -/
def Obligations.ManagementChecksAnswerInOrder : Prop :=
  ∀ (s : State) (p : PortId) (command : Instr) (f : List Byte),
    s.offers p command f → frameWellFormed f = true → byteAt f 0 = 8 →
    (inSet s.managers (frameRequester f).toNat = false → exec command s = .next (s.refusing p f .notManager))
    ∧ (inSet s.managers (frameRequester f).toNat = true →
        (mgmtShape (frameOpCode f).toNat = none →
          exec command s = .next (repliedTo p f (s.beginTaking p) .badOperand []))
        ∧ ∀ size always, mgmtShape (frameOpCode f).toNat = some (size, always) →
          (s.restart ≠ none → always = false →
            exec command s = .next (repliedTo p f (s.beginTaking p) .notReady []))
          ∧ (s.restart = none ∨ always = true → (frameOperand f).length ≠ size →
            exec command s = .next (repliedTo p f (s.beginTaking p) .badOperand []))
          ∧ ∀ n : Byte, (s.restart = none ∨ always = true) → frameOperand f = [n] →
            (command ∈ [.windowClear p, .windowRead p, .grantRevoke p] ∧ 23 < n.toNat
              ∨ command ∈ [.bufferRead p, .bufferRetry p, .bufferDiscard p] ∧ 11 < n.toNat
              ∨ command ∈ [.channelOffline p, .channelOnline p] ∧ 1 < n.toNat
              ∨ command = .countersRead p ∧ 2 < n.toNat
              ∨ command = .eventsRead p ∧ (n.toNat = 0 ∨ 4 < n.toNat)) →
            exec command s = .next (repliedTo p f (s.beginTaking p) .badOperand []))

/-- WINDOW_READ, BUFFER_READ, COUNTERS_READ, PARAM_READ and STATUS_READ reply with the state as it stands and change nothing but by
the taking, which counts the frame before a port's counters are read (R22, R99, R147, R149, R164, R172). -/
def Obligations.ReadOperationsReplyWithTheState : Prop :=
  ∀ (s : State) (p : PortId) (f : List Byte),
    let yes := fun (b : Bool) => if b then (1 : Byte) else 0
    let begun := s.beginTaking p
    let answers := fun (command : Instr) (operand : List Byte) =>
      exec command s = .next (repliedTo p f begun .ok operand)
    let portBytes := fun (k : PortCounters) =>
      bytesOf 4 k.framesTaken.toNat ++ bytesOf 4 k.crcDrops.toNat ++ bytesOf 4 k.misrouted.toNat
        ++ bytesOf 4 k.overruns.toNat ++ bytesOf 4 k.format.toNat ++ bytesOf 4 k.access.toNat ++ bytesOf 4 k.decode.toNat
        ++ bytesOf 4 k.grant.toNat ++ bytesOf 4 k.channel.toNat ++ bytesOf 4 k.resource.toNat ++ bytesOf 4 k.result.toNat
    let states := fun (c : ChannelState) => match c with
      | .idle => (0 : Byte)
      | .busy => 1
      | .quiescing => 2
      | .offline => 3
    let buffersIn := fun (test : Option Buffer → Bool) => BitVec.ofNat 8 ((List.finRange 12).countP fun b => test (s.buffer b))
    let slotsIn := fun (test : Option Slot → Bool) => BitVec.ofNat 8 ((List.finRange 8).countP fun i => test (s.slot i))
    (s.obeys p (.statusRead p) f [] →
      answers (.statusRead p)
        ([yes s.restart.isSome, yes s.lp0.up, yes s.lp1.up, states s.sc0.state, states s.sc1.state,
          BitVec.ofNat 8 s.sc0.queue.length, BitVec.ofNat 8 s.sc1.queue.length,
          buffersIn Option.isNone,
          buffersIn (·.any Buffer.isOpen),
          buffersIn (·.any fun x => x.phase == .sealed),
          buffersIn (·.any fun x => x.phase == .queued),
          buffersIn (·.any fun x => x.phase == .programming),
          buffersIn (·.any Buffer.isHeld),
          slotsIn Option.isNone,
          slotsIn (·.any Slot.isFetching),
          slotsIn (·.any fun x => match x.phase with
            | .ready _ _ => true
            | _ => false),
          slotsIn (·.any fun x => match x.phase with
            | .failed _ _ => true
            | _ => false),
          BitVec.ofNat 8 ((List.finRange 24).countP fun w => (s.grantOf w).isSome),
          BitVec.ofNat 8 s.log.length] ++ bytesOf 2 s.overflow.toNat ++ bytesOf 4 s.timeBase.toNat))
    ∧ (s.restart = none →
      (∀ w : WindowId, s.obeys p (.windowRead p) f [BitVec.ofNat 8 w] →
        answers (.windowRead p)
          (BitVec.ofNat 8 w :: yes (s.window w).valid :: ((s.window w).operand w).drop 1))
      ∧ (∀ b : BufferId, s.obeys p (.bufferRead p) f [BitVec.ofNat 8 b] →
        (s.buffer b = none →
          answers (.bufferRead p) [BitVec.ofNat 8 b, 0, 0xFF, 0, 0, 0, 0, 0, 0, 0, 0, 0, 0])
        ∧ ∀ x, s.buffer b = some x →
          answers (.bufferRead p)
            ([BitVec.ofNat 8 b,
              (match x.phase with
                | .opened _ _ => 1
                | .sealed => 2
                | .queued => 3
                | .programming => 4
                | .held _ => 5),
              if x.channel = .sc0 then 0 else 1] ++ bytesOf 2 x.page.toNat ++ bytesOf 2 x.staged.length
              ++ bytesOf 4 x.writers.toNat
              ++ [match x.phase with
                | .held .channelOffline => 2
                | .held .programFailed => 3
                | _ => 0, BitVec.ofNat 8 x.attempts]))
      ∧ (s.obeys p (.countersRead p) f [0] → answers (.countersRead p) (portBytes begun.lp0.counters))
      ∧ (s.obeys p (.countersRead p) f [1] → answers (.countersRead p) (portBytes begun.lp1.counters))
      ∧ (s.obeys p (.countersRead p) f [2] →
        answers (.countersRead p)
          (bytesOf 4 s.counters.overlayHits.toNat ++ bytesOf 4 s.counters.readsDeferred.toNat
            ++ bytesOf 4 s.counters.readsAbandoned.toNat ++ bytesOf 4 s.counters.programsCompleted.toNat
            ++ bytesOf 4 s.counters.attemptsFailed.toNat ++ bytesOf 4 s.counters.timeouts.toNat
            ++ bytesOf 4 s.counters.lateCompletions.toNat ++ bytesOf 4 s.counters.busyRefusals.toNat))
      ∧ (s.obeys p (.paramRead p) f [] →
        answers (.paramRead p)
          (bytesOf 2 s.params.holdTime ++ bytesOf 2 s.params.coalesceIdle ++ bytesOf 2 s.params.openLimit
            ++ bytesOf 2 s.params.grantLife ++ bytesOf 2 s.params.opTimeout ++ bytesOf 2 s.params.retryLimit
            ++ bytesOf 2 s.params.offlineStreak ++ bytesOf 2 s.params.slotsPerReq
            ++ match s.params.noticeTarget with
              | none => [0, 0]
              | some (q, port) => [q.setWidth 8, if port = .lp0 then 0 else 1])))

/-- WINDOW_LOAD of an entry in range is answered OVERLAP when another valid entry and it could match one request; else it replaces
the entry at the index and ends the grant of a held record with GRANT_REVOKED (R19, R121). -/
def Obligations.WindowLoadReplacesTheEntry : Prop :=
  ∀ (s : State) (p : PortId) (f : List Byte) (w : WindowId) (e : WindowEntry),
    s.windowsLawful → e.valid = true → e.inRanges → s.obeys p (.windowLoad p) f (e.operand w) → s.restart = none →
    let clash := ∃ (v : WindowId) (q : ReqId) (page : Nat),
      v ≠ w ∧ (s.window v).matches q page = true ∧ e.matches q page = true
    let loaded := (s.beginTaking p).setWindow w e
    (clash → exec (.windowLoad p) s = .next (repliedTo p f (s.beginTaking p) .overlap []))
    ∧ (¬ clash → s.holderOf w = none → exec (.windowLoad p) s = .next (repliedTo p f loaded .ok []))
    ∧ ∀ h, ¬ clash → s.holderOf w = some h →
        exec (.windowLoad p) s = .next
          (repliedTo p f ((loaded.endGrant w).append (.grantRevoked h w .windowLoad)) .ok [])

/-- The operand of WINDOW_LOAD: every entry in range, at any index, is read back from its sixteen bytes as it is, and sixteen bytes
that are no such entry are answered BAD_OPERAND (R18, R171, R172). -/
def Obligations.WindowLoadOperandIsReadExactly : Prop :=
  (∀ (w : WindowId) (e : WindowEntry), e.valid = true → e.inRanges →
    (e.operand w).length = 16 ∧ windowLoadOperand (e.operand w) = some (w, e))
  ∧ (∀ (op : List Byte) (w : WindowId) (e : WindowEntry), op.length = 16 → windowLoadOperand op = some (w, e) →
      op = e.operand w ∧ e.valid = true ∧ e.inRanges)
  ∧ ∀ (s : State) (p : PortId) (f op : List Byte), op.length = 16 → s.obeys p (.windowLoad p) f op → s.restart = none →
      (∀ (w : WindowId) (e : WindowEntry), e.valid = true → e.inRanges → op ≠ e.operand w) →
      exec (.windowLoad p) s = .next (repliedTo p f (s.beginTaking p) .badOperand [])

/-- WINDOW_CLEAR makes a valid entry invalid and keeps its other fields; GRANT_REVOKE leaves the entry. Both end the grant of a held
record with GRANT_REVOKED; GRANT_REVOKE replies former holder and buffers sealed (R21, R120, R121). -/
def Obligations.ClearAndRevokeEndTheGrant : Prop :=
  ∀ (s : State) (p : PortId) (f : List Byte) (w : WindowId), s.restart = none →
    let begun := s.beginTaking p
    let cleared := begun.setWindow w { s.window w with valid := false }
    (s.obeys p (.windowClear p) f [BitVec.ofNat 8 w] →
      ((s.window w).valid = false → exec (.windowClear p) s = .next (repliedTo p f begun .ok []))
      ∧ ((s.window w).valid = true → s.holderOf w = none →
          exec (.windowClear p) s = .next (repliedTo p f cleared .ok []))
      ∧ ∀ h, (s.window w).valid = true → s.holderOf w = some h →
          exec (.windowClear p) s = .next
            (repliedTo p f ((cleared.endGrant w).append (.grantRevoked h w .windowClear)) .ok []))
    ∧ (s.obeys p (.grantRevoke p) f [BitVec.ofNat 8 w] →
        (s.holderOf w = none → exec (.grantRevoke p) s = .next (repliedTo p f begun .ok [0, 0]))
        ∧ ∀ h, s.holderOf w = some h →
          exec (.grantRevoke p) s = .next
            (repliedTo p f ((begun.endGrant w).append (.grantRevoked h w .revoke)) .ok
              [h.setWidth 8, BitVec.ofNat 8
                (s.openOrder.filter fun b => s.bufferHas b fun x => x.isOpen && inSet x.grantWindows w).length]))

/-- BUFFER_RETRY is answered WRONG_STATE unless the buffer is HELD on an online channel. Accepted, it makes the buffer SEALED with attempts 0, put on the seal list before the SEALED newer buffer of its page
or else at the tail, tries the enqueue rule, and replies the buffer's state after the event (R100, R101). -/
def Obligations.RetryReturnsTheBufferToTheSealList : Prop :=
  ∀ (s : State) (p : PortId) (f : List Byte) (b : BufferId), s.restart = none →
    s.obeys p (.bufferRetry p) f [BitVec.ofNat 8 b] →
    ((∀ x, s.buffer b = some x → x.isHeld = true → (s.channel x.channel).state.online = false) →
      exec (.bufferRetry p) s = .next (repliedTo p f (s.beginTaking p) .wrongState []))
    ∧ ∀ (x : Buffer) (list : List BufferId), s.listsLawful → s.buffer b = some x → x.isHeld = true →
      (s.channel x.channel).state.online = true →
      let newer := fun (m : BufferId) => (∃ i j : Nat, s.openOrder[i]? = some b ∧ s.openOrder[j]? = some m ∧ i < j)
        ∧ ∃ y, s.buffer m = some y ∧ y.channel = x.channel ∧ y.page = x.page ∧ y.phase = .sealed
      ((∀ m, ¬ newer m) ∧ list = s.sealList ++ [b]
        ∨ ∃ m before after, newer m ∧ (∀ n, newer n → n = m) ∧ s.sealList = before ++ m :: after
          ∧ list = before ++ b :: m :: after) →
      let t := { (s.beginTaking p).setBuffer b (some { x with phase := .sealed, attempts := 0 }) with
        sealList := list }.tryEnqueue x.channel
      exec (.bufferRetry p) s = .next (repliedTo p f t .ok
        [if t.bufferHas b Buffer.isSealed then 2 else if t.bufferHas b (fun y => y.phase == .queued) then 3 else 4])

/-- BUFFER_DISCARD is answered WRONG_STATE unless the buffer is HELD. Accepted, it appends BUFFER_DISCARDED with the sender and the
hold cause, frees the buffer, and tries the enqueue rule (R103, R104). -/
def Obligations.DiscardFreesTheBuffer : Prop :=
  ∀ (s : State) (p : PortId) (f : List Byte) (b : BufferId), s.restart = none →
    s.obeys p (.bufferDiscard p) f [BitVec.ofNat 8 b] →
    (s.bufferHas b Buffer.isHeld = false →
      exec (.bufferDiscard p) s = .next (repliedTo p f (s.beginTaking p) .wrongState []))
    ∧ ∀ x cause, s.buffer b = some x → x.phase = .held cause →
      exec (.bufferDiscard p) s = .next (repliedTo p f
        ({ ((s.beginTaking p).append (.bufferDiscarded x.channel (frameRequester f) x.page b cause)).setBuffer b none with
            openOrder := s.openOrder.filter (· ≠ b) }.tryEnqueue x.channel) .ok [])

/-- CHANNEL_OFFLINE takes an IDLE channel offline, makes a BUSY one QUIESCING, and replies the state reached. CHANNEL_ONLINE of an
OFFLINE channel: streak 0, IDLE, the buffers held for it SEALED again at the tail of the seal list in open-stamp order, an enqueue
try, CHANNEL_ONLINE appended; of any other channel: WRONG_STATE (R86, R90). -/
def Obligations.ChannelsGoOfflineAndOnline : Prop :=
  ∀ (s : State) (p : PortId) (f : List Byte) (c : ChannelId), s.restart = none →
    let begun := s.beginTaking p
    (s.obeys p (.channelOffline p) f [if c = .sc0 then 0 else 1] →
      ((s.channel c).state = .idle →
        exec (.channelOffline p) s = .next (repliedTo p f (begun.offlineEntry c .requested) .ok [3]))
      ∧ ((s.channel c).state = .busy →
          exec (.channelOffline p) s = .next
            (repliedTo p f (begun.setChannel c { s.channel c with state := .quiescing }) .ok [2]))
      ∧ ((s.channel c).state = .quiescing → exec (.channelOffline p) s = .next (repliedTo p f begun .ok [2]))
      ∧ ((s.channel c).state = .offline → exec (.channelOffline p) s = .next (repliedTo p f begun .ok [3])))
    ∧ (s.obeys p (.channelOnline p) f [if c = .sc0 then 0 else 1] →
        let back := s.openOrder.filter fun b => s.bufferHas b fun x => x.channel == c && x.phase == .held .channelOffline
        ((s.channel c).state ≠ .offline →
          exec (.channelOnline p) s = .next (repliedTo p f begun .wrongState []))
        ∧ ((s.channel c).state = .offline → ∃ u : State,
            (∀ b, u.buffer b
              = if b ∈ back then (s.buffer b).map fun x => { x with phase := .sealed, attempts := 0 } else s.buffer b)
            ∧ u = { begun.setChannel c { s.channel c with streak := 0, state := .idle } with
                buffers := u.buffers, sealList := s.sealList ++ back }
            ∧ exec (.channelOnline p) s
              = .next (repliedTo p f ((u.tryEnqueue c).append (.channelOnline c)) .ok [])))

/-- EVENTS_READ of a count outside 1 to 4 is BAD_OPERAND; else it removes the oldest records, as many as asked for or as there are,
and replies them after the overflow count before the event and the depth left. A log left empty clears the overflow count and arms the
notice. It is served while restart is pending too (R160). Each record is sent as sixteen bytes: sequence, kind code, presence marks,
time, port, channel, requester, number, page or sector or ticket, cause code, zero (R158, R172, R173). -/
def Obligations.EventsReadRemovesTheOldest : Prop :=
  ∀ (s : State) (p : PortId) (f : List Byte) (n : Nat), n < 256 →
    s.obeys p (.eventsRead p) f [BitVec.ofNat 8 n] →
    let sent := fun (r : EventRecord) (kind marks port channel requester number : Byte) (place : Nat) (cause : Byte) =>
      bytesOf 2 r.sequence.toNat ++ [kind, marks] ++ bytesOf 4 r.time.toNat ++ [port, channel, requester, number]
        ++ bytesOf 2 place ++ [cause, 0]
    let portCode := fun (p : PortId) => if p = .lp0 then (0 : Byte) else 1
    let channelCode := fun (c : ChannelId) => if c = .sc0 then (0 : Byte) else 1
    let id := fun (q : ReqId) => q.setWidth 8
    let number := fun (k : Nat) => BitVec.ofNat 8 k
    let record := fun (r : EventRecord) => match r.event with
      | .linkUp p => sent r 1 1 (portCode p) 0 0 0 0 0
      | .linkDown p => sent r 2 1 (portCode p) 0 0 0 0 0
      | .frameOverrun p => sent r 3 1 (portCode p) 0 0 0 0 0
      | .readAbandoned q ticket i => sent r 4 (4 + 8 + 16) 0 0 (id q) (number i) ticket.toNat 0
      | .fetchFailed c q page i => sent r 5 (2 + 4 + 8 + 16) 0 (channelCode c) (id q) (number i) page.toNat 0
      | .programHeld c page b => sent r 6 (2 + 8 + 16) 0 (channelCode c) 0 (number b) page.toNat 0
      | .clearFailed c q sector cause =>
        sent r 7 (2 + 4 + 8 + 32) 0 (channelCode c) (id q) 0 sector.toNat (match cause with
          | .storeFailed => 1
          | .channelOffline => 2)
      | .lateCompletion c => sent r 8 2 0 (channelCode c) 0 0 0 0
      | .channelOffline c cause =>
        sent r 9 (2 + 32) 0 (channelCode c) 0 0 0 (match cause with
          | .requested => 4
          | .streak => 5)
      | .channelOnline c => sent r 10 2 0 (channelCode c) 0 0 0 0
      | .bufferDiscarded c q page b cause =>
        sent r 11 (2 + 4 + 8 + 16 + 32) 0 (channelCode c) (id q) (number b) page.toNat (match cause with
          | .channelOffline => 2
          | .programFailed => 3)
      | .grantExpired q w => sent r 12 (4 + 16) 0 0 (id q) (number w) 0 0
      | .grantRevoked q w cause =>
        sent r 13 (4 + 16 + 32) 0 0 (id q) (number w) 0 (match cause with
          | .revoke => 6
          | .windowLoad => 7
          | .windowClear => 8)
      | .restartDone q => sent r 14 4 0 0 (id q) 0 0 0
    let reply := bytesOf 2 s.overflow.toNat ++ [BitVec.ofNat 8 (s.log.length - n), BitVec.ofNat 8 (min n s.log.length)]
      ++ (s.log.take n).flatMap record
    (n = 0 ∨ 4 < n → exec (.eventsRead p) s = .next (repliedTo p f (s.beginTaking p) .badOperand []))
    ∧ (1 ≤ n → n ≤ 4 → s.log.length ≤ n → exec (.eventsRead p) s = .next
        (repliedTo p f { s.beginTaking p with log := [], overflow := 0, notice := .armed } .ok reply))
    ∧ (1 ≤ n → n ≤ 4 → n < s.log.length → exec (.eventsRead p) s = .next
        (repliedTo p f { s.beginTaking p with log := s.log.drop n } .ok reply))

/-- COUNTERS_CLEAR sets the counters of both ports and of the part to 0, its own taking counted before, and nothing else; during a
restart it is answered NOT_READY (R165). -/
def Obligations.CountersClearZeroesEveryCounter : Prop :=
  ∀ (s : State) (p : PortId) (f : List Byte), s.obeys p (.countersClear p) f [] →
    let begun := s.beginTaking p
    (s.restart = none → exec (.countersClear p) s = .next (repliedTo p f
      { begun with
        lp0 := { begun.lp0 with counters := ⟨0, 0, 0, 0, 0, 0, 0, 0, 0, 0, 0⟩ }
        lp1 := { begun.lp1 with counters := ⟨0, 0, 0, 0, 0, 0, 0, 0, 0, 0, 0⟩ }
        counters := ⟨0, 0, 0, 0, 0, 0, 0, 0⟩ } .ok []))
    ∧ (s.restart ≠ none → exec (.countersClear p) s = .next (repliedTo p f begun .notReady []))

/-- PARAM_SET writes the one parameter its identifier names when the value is in its range, replies the previous value, and is
answered BAD_OPERAND with no change otherwise; a changed NOTICE_TARGET sets the notice state (R145, R146, R161). -/
def Obligations.ParamSetWritesOneParameter : Prop :=
  ∀ (s : State) (p : PortId) (f : List Byte) (id v : Nat), id < 256 → v < 65536 → s.restart = none →
    s.obeys p (.paramSet p) f (BitVec.ofNat 8 id :: bytesOf 2 v) →
    let ps := s.params
    let begun := s.beginTaking p
    let bad := exec (.paramSet p) s = .next (repliedTo p f begun .badOperand [])
    let numeric := fun (lo hi old : Nat) (new : Params) =>
      (lo ≤ v ∧ v ≤ hi →
        exec (.paramSet p) s = .next (repliedTo p f { begun with params := new } .ok (bytesOf 2 old)))
      ∧ (v < lo ∨ hi < v → bad)
    let target := fun (new : Option (ReqId × PortId)) =>
      exec (.paramSet p) s = .next (repliedTo p f
        { begun with
          params := { ps with noticeTarget := new }
          notice := if new = ps.noticeTarget then s.notice else if new = none ∨ s.log = [] then .armed else .pending } .ok
        (match ps.noticeTarget with
          | none => [0, 0]
          | some (q, port) => [q.setWidth 8, if port = .lp0 then 0 else 1]))
    (id = 1 → numeric 100 65535 ps.holdTime { ps with holdTime := v })
    ∧ (id = 2 → numeric 50 65535 ps.coalesceIdle { ps with coalesceIdle := v })
    ∧ (id = 3 → numeric 1 255 ps.openLimit { ps with openLimit := v })
    ∧ (id = 4 → numeric 1 255 ps.grantLife { ps with grantLife := v })
    ∧ (id = 5 → numeric 1 255 ps.opTimeout { ps with opTimeout := v })
    ∧ (id = 6 → numeric 0 7 ps.retryLimit { ps with retryLimit := v })
    ∧ (id = 7 → numeric 1 15 ps.offlineStreak { ps with offlineStreak := v })
    ∧ (id = 8 → numeric 1 8 ps.slotsPerReq { ps with slotsPerReq := v })
    ∧ (id = 9 →
        (v / 256 = 0 → target none)
        ∧ (∀ (q : ReqId) (port : PortId), q ≠ 0 → v = q.toNat * 256 + (if port = .lp0 then 0 else 1) → target (some (q, port)))
        ∧ (31 < v / 256 ∨ 1 ≤ v / 256 ∧ 1 < v % 256 → bad))
    ∧ (id = 0 ∨ 9 < id → bad)

/-- MGMT_SET_WRITE replaces the management set whole and replies the previous one; a set that names ID 0 is BAD_OPERAND and an empty
one EMPTY_SET, with no change (R143). -/
def Obligations.ManagementSetIsReplacedWhole : Prop :=
  ∀ (s : State) (p : PortId) (f : List Byte) (m : ReqSet), s.restart = none →
    s.obeys p (.mgmtSetWrite p) f (bytesOf 4 m.toNat) →
    (inSet m 0 = true → exec (.mgmtSetWrite p) s = .next (repliedTo p f (s.beginTaking p) .badOperand []))
    ∧ (m = 0 → exec (.mgmtSetWrite p) s = .next (repliedTo p f (s.beginTaking p) .emptySet []))
    ∧ (inSet m 0 = false → m ≠ 0 →
        exec (.mgmtSetWrite p) s = .next
          (repliedTo p f { s.beginTaking p with managers := m } .ok (bytesOf 4 s.managers.toNat)))

/-- RESTART sets restart pending, empties the queues but for the operations in progress, and completes at once when there are none; a
second one changes nothing. A completion empties slots, pool and grants and rests the channels (R150, R152, R153). -/
def Obligations.RestartDrainsAndCompletes : Prop :=
  let working := fun (ch : Channel) => ch.state = .busy ∨ ch.state = .quiescing
  let rested := fun (ch : Channel) =>
    { ch with state := if ch.state = .offline then .offline else .idle, queue := [], timer := none, streak := 0 }
  let completed := fun (s : State) (q : ReqId) =>
    ({ s with
      slots := Vector.replicate 8 none, buffers := Vector.replicate 12 none, openOrder := [], sealList := []
      grants := Vector.replicate 24 none, sc0 := rested s.sc0, sc1 := rested s.sc1
      restart := none } : State).append (.restartDone q)
  (∀ (s : State) (p : PortId) (f : List Byte), s.obeys p (.restart p) f [] →
    let drained := fun (ch : Channel) =>
      { ch with queue := if ch.state = .busy ∨ ch.state = .quiescing then ch.queue.take 1 else [] }
    let taken := { s.beginTaking p with
      restart := some (frameRequester f), sc0 := drained s.sc0, sc1 := drained s.sc1 }
    (s.restart ≠ none → exec (.restart p) s = .next (repliedTo p f (s.beginTaking p) .ok [1]))
    ∧ (s.restart = none → working s.sc0 ∨ working s.sc1 → exec (.restart p) s = .next (repliedTo p f taken .ok [1]))
    ∧ (s.restart = none → ¬ working s.sc0 → ¬ working s.sc1 →
        exec (.restart p) s = .next (repliedTo p f (completed taken (frameRequester f)) .ok [0])))
  ∧ ∀ s : State,
    (s.restart = none ∨ working s.sc0 ∨ working s.sc1 → s.settleRestart = s)
    ∧ ∀ q, s.restart = some q → ¬ working s.sc0 → ¬ working s.sc1 → s.settleRestart = completed s q

/-! ### Staging pool and channels -/

/-- A seal: on an online channel the OPEN buffer becomes SEALED at the tail of the seal list and the enqueue rule is tried; else it
becomes HELD and fails the SYNC slots that wait on it; a buffer that is not OPEN is left (R31, R67). -/
def Obligations.SealOfAnOpenBuffer : Prop :=
  ∀ (s : State) (b : BufferId),
    (s.bufferHas b Buffer.isOpen = false → s.sealBuffer b = s)
    ∧ ∀ x, s.buffer b = some x → x.isOpen = true →
      ((s.channel x.channel).state.online = true →
        s.sealBuffer b = { s.setBuffer b (some { x with phase := .sealed }) with
          sealList := s.sealList ++ [b] }.tryEnqueue x.channel)
      ∧ ((s.channel x.channel).state.online = false →
          let t := s.sealBuffer b
          t.buffer b = some { x with phase := .held .channelOffline }
          ∧ (∀ b', b' ≠ b → t.buffer b' = s.buffer b')
          ∧ t = { s with
              buffers := t.buffers, slots := failWaiting b .channelOffline s.params.holdTime s.slots })

/-- The enqueue rule for a channel: its first SEALED buffer is moved while the rule's conditions hold, leaving the seal list for the
tail of the queue, and the rule is tried again; else nothing changes (R37, R38). -/
def Obligations.EnqueueRuleMovesTheFirstSealed : Prop :=
  ∀ (s : State) (c : ChannelId), s.listsLawful →
    ((∀ b ∈ s.sealList, ∀ x, s.buffer b = some x → x.channel ≠ c) → s.tryEnqueue c = s)
    ∧ ∀ (b : BufferId) (x : Buffer) (before after older newer : List BufferId),
      s.sealList = before ++ b :: after → (∀ m ∈ before, ∀ y, s.buffer m = some y → y.channel ≠ c) →
      s.buffer b = some x → x.channel = c → s.openOrder = older ++ b :: newer →
      let free := s.restart = none ∧ (s.channel c).state.online = true ∧ (s.channel c).queue.length < 16
        ∧ ∀ o ∈ older, ∀ y, s.buffer o = some y → y.channel = c → y.page = x.page → y.isOpen = true
      (free → s.tryEnqueue c =
        ({ s.setBuffer b (some { x with phase := .queued, attempts := 0 }) with
            sealList := before ++ after }.appendOp c (.program x.page b)).tryEnqueue c)
      ∧ (¬ free → s.tryEnqueue c = s)

/-- The start of an attempt: number and attempts go up, the command is sent, the timer is started, and the slot or buffer takes the
attempt. An operation appended to an IDLE channel is started at once, and else waits at the tail. After a leaving and an enqueue try a
BUSY channel starts the next operation or goes IDLE, and a QUIESCING one goes offline (R40, R54, R75, R78, R79, R87). -/
def Obligations.ChannelStartsAndGoesOn : Prop :=
  ∀ (s : State) (c : ChannelId) (op : Op) (rest : List Op),
    let ch := s.channel c
    let started := fun (request : StoreRequest) => s.setChannel c
      { state := if ch.state = .quiescing then .quiescing else .busy
        queue := { op with attempts := op.attempts + 1 } :: rest
        timer := some (s.params.opTimeout * 1000)
        streak := ch.streak, number := ch.number + 1, sent := some ⟨ch.number + 1, request⟩ }
    (ch.queue = op :: rest →
      (∀ sector q, op.kind = .clear sector q → s.startHead c = started (.clear sector))
      ∧ (∀ pg o n i x r, op.kind = .fetch pg o n i → s.slot i = some x → x.work = .read r →
          s.startHead c = (started (.fetch pg o n)).setSlot i
            (some { x with work := .read { r with number := some (ch.number + 1) } }))
      ∧ (∀ pg b x, op.kind = .program pg b → s.buffer b = some x →
          s.startHead c = (started (.program pg x.staged)).setBuffer b
            (some { x with phase := .programming, attempts := op.attempts + 1 })))
    ∧ (∀ k : OpKind,
        let queued := s.setChannel c { ch with queue := ch.queue ++ [⟨k, 0⟩] }
        (ch.state = .idle → s.appendOp c k = queued.startHead c)
        ∧ (ch.state ≠ .idle → s.appendOp c k = queued))
    ∧ let t := s.tryEnqueue c
      (ch.state = .busy → (t.channel c).queue ≠ [] → s.afterLeaving c = t.startHead c)
      ∧ (ch.state = .busy → (t.channel c).queue = [] → s.afterLeaving c = s.setChannel c { ch with state := .idle })
      ∧ (ch.state = .quiescing → s.afterLeaving c = s.offlineEntry c .requested)

/-- The offline entry: every queued operation's owner is told in queue order, then the channel's SEALED buffers go HELD and leave the
seal list, queue and timer are cleared, the state is OFFLINE, and CHANNEL_OFFLINE is appended (R43, R57, R67, R88). -/
def Obligations.OfflineEntryTellsEveryOwner : Prop :=
  ∀ (s : State) (c : ChannelId) (cause : OfflineCause),
    let fails := fun (slots : Vector (Option Slot) 8) (b : BufferId) =>
      failWaiting b .channelOffline s.params.holdTime slots
    (∀ (u : State) (op : Op), u.params = s.params →
      (∀ sector q, op.kind = .clear sector q →
        State.opRemoved c u op = u.append (.clearFailed c q sector .channelOffline))
      ∧ (∀ pg o n i x r, op.kind = .fetch pg o n i → u.slot i = some x → x.work = .read r → x.phase = .fetching →
          State.opRemoved c u op
            = u.setSlot i (some { x with phase := .failed .channelOffline s.params.holdTime }))
      ∧ (∀ pg b x, op.kind = .program pg b → u.buffer b = some x →
          State.opRemoved c u op
            = { u.setBuffer b (some { x with phase := .held .channelOffline }) with slots := fails u.slots b }))
    ∧ ∃ u v : State,
      u = (s.channel c).queue.foldl (State.opRemoved c) s
      ∧ (∀ b, v.buffer b = (u.buffer b).map fun x =>
          if b ∈ s.sealList ∧ x.channel = c then { x with phase := .held .channelOffline } else x)
      ∧ v = { u with
          buffers := v.buffers
          slots := (s.sealList.filter fun b => u.bufferHas b fun x => x.channel == c).foldl fails u.slots
          sealList := s.sealList.filter fun b => !u.bufferHas b fun x => x.channel == c }
      ∧ s.offlineEntry c cause
        = (v.setChannel c { s.channel c with queue := [], timer := none, state := .offline }).append
            (.channelOffline c cause)

/-- An OK completion that fits the attempt in progress: timer stopped, streak 0, the operation leaves; a FETCH's slot is READY with
overlay over store bytes, a PROGRAM's buffer is FREE and its bytes in the store, a CLEAR's sector reads 0xFF (R41, R55, R66, R79). -/
def Obligations.OkCompletionServesTheOwner : Prop :=
  ∀ (s : State) (c : ChannelId) (n : BitVec 8) (bytes : List Byte) (op : Op) (rest : List Op),
    s.resetAsserted = false → (s.channel c).state.working = true → (s.channel c).queue = op :: rest →
    (s.channel c).number = n →
    let left := s.setChannel c { s.channel c with timer := none, streak := 0, queue := rest }
    let answers := fun (u : State) =>
      exec (.storeCompletion c n .ok bytes) s = .next ((u.afterLeaving c).settleRestart.placeNotice)
    (∀ pg o i x r, op.kind = .fetch pg o bytes.length i → s.slot i = some x → x.phase = .fetching → x.work = .read r →
      r.number = some n → r.overlay.length = bytes.length →
      answers (left.setSlot i (some { x with
        phase := .ready ((List.range bytes.length).map fun k => (r.overlay.getD k none).getD (bytes.getD k 0))
          s.params.holdTime })))
    ∧ (∀ pg b x, op.kind = .program pg b → bytes = [] → s.buffer b = some x → ∃ u : State,
        answers u
        ∧ u.slots = s.slots.map (Option.map fun y => match y.phase, y.work with
            | .fetching, .sync m =>
              if inSet m b then
                { y with
                  work := .sync (leaveSet m b)
                  phase := if leaveSet m b = 0 then .ready [] s.params.holdTime else .fetching }
              else y
            | _, _ => y)
        ∧ (cellsWf x.staged → ∀ a, cellAt (u.store c) a
            = (if pg.toNat * 256 ≤ a then cellAt x.staged (a - pg.toNat * 256) else none).or (cellAt (s.store c) a))
        ∧ u = { (left.setBuffer b none).setStore c (u.store c) with
            openOrder := s.openOrder.filter (· ≠ b), slots := u.slots
            counters := { s.counters with programsCompleted := bump s.counters.programsCompleted } })
    ∧ (∀ sector q, op.kind = .clear sector q → bytes = [] → ∃ u : State,
        answers u
        ∧ (cellsWf (s.store c) → ∀ a, cellAt (u.store c) a
            = if sector.toNat * 4096 ≤ a ∧ a < sector.toNat * 4096 + 4096 then some 0xFF else cellAt (s.store c) a)
        ∧ u = left.setStore c (u.store c))

/-- A failed attempt, by FAIL, by an OK that does not fit, or by the timer: counted, streak raised, then the first case of R80; an
operation that fails finally leaves the queue and its owner is told (R77, R80, R81, R82, R89). The time an expiry takes is the
model's choice (log entry 2). -/
def Obligations.FailedAttemptTakesTheFirstCase : Prop :=
  ∀ (s u : State) (i : Instr) (c : ChannelId) (op : Op) (rest : List Op) (left : Micros),
    s.resetAsserted = false → (s.channel c).state.working = true → (s.channel c).queue = op :: rest →
    (s.channel c).timer = some left →
    (u = s ∧ ((∃ bytes, i = .storeCompletion c (s.channel c).number .fail bytes)
        ∨ ∃ bytes, i = .storeCompletion c (s.channel c).number .ok bytes
          ∧ ((∃ pg o n slot, op.kind = .fetch pg o n slot ∧ bytes.length ≠ n)
            ∨ (∀ pg o n slot, op.kind ≠ .fetch pg o n slot) ∧ bytes ≠ []))
      ∨ i = .operationTimerExpiry c
        ∧ u = (s.elapse left).setCounters { s.counters with timeouts := bump s.counters.timeouts }) →
    let noted := (u.setChannel c { u.channel c with timer := none, streak := (s.channel c).streak + 1 }).setCounters
      { u.counters with attemptsFailed := bump s.counters.attemptsFailed }
    let shorter := noted.setChannel c { noted.channel c with queue := rest }
    let answers := fun (t : State) => exec i s = .next (t.settleRestart.placeNotice)
    let final := fun (t : State) =>
      (s.params.offlineStreak ≤ (s.channel c).streak + 1 → answers (t.offlineEntry c .streak))
      ∧ ((s.channel c).streak + 1 < s.params.offlineStreak → s.restart ≠ none ∨ s.params.retryLimit < op.attempts →
          answers (t.afterLeaving c))
    ((s.channel c).streak + 1 < s.params.offlineStreak → s.restart = none → op.attempts ≤ s.params.retryLimit →
      answers (noted.startHead c))
    ∧ (∀ sector q, op.kind = .clear sector q → final (shorter.append (.clearFailed c q sector .storeFailed)))
    ∧ (∀ pg o n slot x r, op.kind = .fetch pg o n slot → s.slot slot = some x → x.phase = .fetching → x.work = .read r →
        r.number = some (s.channel c).number →
        final ((shorter.setSlot slot (some { x with phase := .failed .storeFailed s.params.holdTime })).append
          (.fetchFailed c x.requester r.page slot)))
    ∧ (∀ pg b x, op.kind = .program pg b → u.buffer b = some x →
        final ({ shorter.setBuffer b (some { x with phase := .held .programFailed }) with
          slots := failWaiting b .storeFailed s.params.holdTime u.slots }.append (.programHeld c pg b)))

/-- A completion whose number is not that of an attempt in progress is late: counted, LATE_COMPLETION appended, and nothing else
changes, whatever its status and bytes (R83). -/
def Obligations.LateCompletionIsDiscarded : Prop :=
  ∀ (s : State) (c : ChannelId) (n : BitVec 8) (status : CompletionStatus) (bytes : List Byte),
    s.resetAsserted = false →
    ((s.channel c).state = .idle ∨ (s.channel c).state = .offline ∨ n ≠ (s.channel c).number) →
    exec (.storeCompletion c n status bytes) s = .next
      (((s.setCounters { s.counters with lateCompletions := bump s.counters.lateCompletions }).append
        (.lateCompletion c)).placeNotice)

/-! ### Timers -/

/-- The timers: an idle or open-limit expiry seals its OPEN buffer; a hold expiry frees the slot with READ_ABANDONED; an inactivity
expiry ends the grant with GRANT_EXPIRED (R32, R33, R62, R118). That each expiry first lets the time left on its timer pass is the
model's choice (log entry 2): n microseconds raise the time base by n (R148), and every running timer loses n, stopping at 0. -/
def Obligations.ExpiriesActOnTheirRecord : Prop :=
  ∀ s : State,
    (∀ n : Nat, let t := s.elapse n
      t.timeBase = s.timeBase + BitVec.ofNat 32 n
      ∧ (∀ c, t.channel c = { s.channel c with timer := (s.channel c).timer.map fun left => left - n })
      ∧ (∀ b, t.buffer b = (s.buffer b).map fun x =>
          { x with phase := match x.phase with
            | .opened idle limit => .opened (idle - n) (limit - n)
            | phase => phase })
      ∧ (∀ i, t.slot i = (s.slot i).map fun x =>
          { x with phase := match x.phase with
            | .ready data hold => .ready data (hold - n)
            | .failed cause hold => .failed cause (hold - n)
            | .fetching => .fetching })
      ∧ (∀ w, t.grantOf w = (s.grantOf w).map fun g => { g with timer := g.timer - n })
      ∧ t = { s with
          timeBase := t.timeBase, buffers := t.buffers, slots := t.slots, grants := t.grants, sc0 := t.sc0, sc1 := t.sc1 })
    ∧ (s.resetAsserted = false →
      (∀ b x idle limit, s.buffer b = some x → x.phase = .opened idle limit →
        exec (.idleTimerExpiry b) s = .next ((s.elapse idle).sealBuffer b).placeNotice
        ∧ exec (.openLimitExpiry b) s = .next ((s.elapse limit).sealBuffer b).placeNotice)
      ∧ (∀ i x left, s.slot i = some x →
          ((∃ data, x.phase = .ready data left) ∨ ∃ cause, x.phase = .failed cause left) →
          exec (.holdTimerExpiry i) s = .next
            ((((s.elapse left).setSlot i none).setCounters
              { s.counters with readsAbandoned := bump s.counters.readsAbandoned }).append
                (.readAbandoned x.requester x.ticket i)).placeNotice)
      ∧ ∀ w g, s.grantOf w = some g →
          exec (.inactivityTimerExpiry w) s = .next
            (((s.elapse g.timer).endGrant w).append (.grantExpired g.holder w)).placeNotice)

/-! ### Event log -/

/-- An append keeps the record, with the sequence counter's value and the time, while the log holds fewer than 16, and else only
counts it; an ARMED notice becomes PENDING when a target is set; nothing else changes (R159, R161). -/
def Obligations.AppendOffersOneRecord : Prop :=
  ∀ (s : State) (e : Event),
    let notice := if s.notice = .armed ∧ s.params.noticeTarget ≠ none then NoticeState.pending else s.notice
    (s.log.length < 16 →
      s.append e = { s with log := s.log ++ [⟨s.sequence, s.timeBase, e⟩], sequence := s.sequence + 1, notice := notice })
    ∧ (16 ≤ s.log.length →
        s.append e = { s with overflow := if s.overflow = 65535 then 65535 else s.overflow + 1, notice := notice })

/-! ### Laws that every step keeps -/

/-- Every law holds in the state after pin reset. Two things in that state are the model's choice: the management set, which the spec
gives from the deassertion on (log entry 7), and the empty, canonical lists of what the stores are taken to hold (log entry 9). -/
def Obligations.LawsHoldAtReset : Prop := State.reset.lawful

/-- The port laws: credits and places never pass 8, an IDLE transmitter has nothing to send, a DOWN port holds nothing (R124, R126,
R129, R131 to R133), and queued frames passed the arrival checks (R128). -/
def Obligations.EveryStepKeepsThePortLaws : Prop :=
  ∀ s t : State, s.portsLawful → s.framesLawful → step s = .next t → t.portsLawful ∧ t.framesLawful

/-- The event log and notice laws: at most 16 records with consecutive sequences, and a notice that is not ARMED has a target and a
record (R159 to R162). -/
def Obligations.EveryStepKeepsTheLogLaws : Prop :=
  ∀ s t : State, s.logLawful → s.noticeLawful → s.resetLawful → step s = .next t → t.logLawful ∧ t.noticeLawful

/-- Management set, parameters, windows and grants stay in their ranges, no two windows match one request, and only a valid window
that requires a grant has a holder (R1, R19, R111, R143, R145). -/
def Obligations.EveryStepKeepsTheTables : Prop :=
  ∀ s t : State, s.managersLawful → s.paramsLawful → s.windowsLawful → s.grantsLawful → step s = .next t →
    t.managersLawful ∧ t.paramsLawful ∧ t.windowsLawful ∧ t.grantsLawful

/-- Every law of a moment between events, all together: ports, log, tables, tickets, slots, channels, queues, pool, page order, grants,
clears, and the pin reset values while RESET_N is asserted (R155). Two of them are laws of the model's own choices: the canonical form
of what the stores are taken to hold (log entry 9), and the management set while RESET_N is asserted (log entry 7). -/
def Obligations.EveryStepKeepsEveryLaw : Prop :=
  ∀ s t : State, s.lawful → step s = .next t → t.lawful

/-! ### Coherence and independence -/

/-- The step form of the coherence law: a WRITE answered ACK changes exactly the accepted bytes, a CLEAR answered ACK makes its sector
0xFF, and either of them refused changes no byte (R59). What a store holds is what the OK completions taken say (log entry 9). -/
def Obligations.AcceptedRequestsChangeTheirBytes : Prop :=
  ∀ (s : State) (p : PortId) (f : List Byte) (q : ReqId) (w : WindowId), s.lawful →
    (s.channel (s.channelOf w)).state.online = true → s.mayChange q w →
    (s.resolves p (.write p) f q w → (s.window w).rights.write = true →
      let n := min (frameLength f) (256 - frameOffset f)
      ∃ (t : State) (body : Body), exec (.write p) s = .next (afterTaking p f (t, body))
        ∧ ((body = .ack n ∧ ∀ c pg pos, pos < 256 → t.accepted c pg pos
              = if c = s.channelOf w ∧ pg = s.pageOf w f ∧ frameOffset f ≤ pos ∧ pos < frameOffset f + n
                then (framePayload f)[pos - frameOffset f]? else s.accepted c pg pos)
          ∨ (body = .refuse .busy ∧ ∀ c pg pos, pos < 256 → t.accepted c pg pos = s.accepted c pg pos)))
    ∧ (s.resolves p (.clear p) f q w → (s.window w).rights.clear = true →
        (s.window w).coversSector (sectorOf (s.pageOf w f)) = true →
        ∃ (t : State) (body : Body), exec (.clear p) s = .next (afterTaking p f (t, body))
          ∧ ((body = .ack 16 ∧ ∀ c pg pos, pos < 256 → t.accepted c pg pos
                = if c = s.channelOf w ∧ pg.toNat / 16 = (s.pageOf w f).toNat / 16 then some 0xFF
                  else s.accepted c pg pos)
            ∨ ((body = .refuse .conflict ∨ body = .refuse .busy)
              ∧ ∀ c pg pos, pos < 256 → t.accepted c pg pos = s.accepted c pg pos)))

/-- The coherence law between acceptances: no other command changes what any byte of any page would read as, whether a buffer is
sealed, moved, programmed or freed, or a sector cleared (R45, R59). Left out are WRITE and CLEAR, which AcceptedRequestsChangeTheirBytes
is about; BUFFER_DISCARD, CHANNEL_OFFLINE, RESTART and pin reset; every failed attempt, by FAIL, misfit or timer, retried or final; and
every OK completion on a QUIESCING channel; and every state in which restart is pending. What a store holds is what the OK completions taken say (log entry 9). -/
def Obligations.OtherStepsChangeNoByte : Prop :=
  ∀ (s t : State) (i : Instr), s.lawful → s.restart = none → exec i s = .next t →
    (∀ p, i ∉ [.write p, .clear p, .bufferDiscard p, .channelOffline p, .restart p]) → i ≠ .pinReset →
    (∀ c, i ≠ .operationTimerExpiry c) →
    (∀ c bytes, i ≠ .storeCompletion c (s.channel c).number .fail bytes) →
    (∀ c bytes op, i = .storeCompletion c (s.channel c).number .ok bytes → (s.channel c).inProgress = some op →
      (s.channel c).state = .busy ∧ op.kind.formFits bytes = true) →
    ∀ c pg pos, pos < 256 → t.accepted c pg pos = s.accepted c pg pos

/-- The stores change only at OK completions that are taken: no other command, and no completion that is late, failed or ill-formed,
changes what the part takes a store to hold (R76). -/
def Obligations.StoresChangeOnlyByCompletions : Prop :=
  ∀ (s t : State) (i : Instr), exec i s = .next t →
    (∀ c bytes op, i = .storeCompletion c (s.channel c).number .ok bytes → (s.channel c).inProgress = some op →
      op.kind.formFits bytes = false) →
    t.store0 = s.store0 ∧ t.store1 = s.store1

/-- Data requests touch only what serves them: windows, parameters, management set, restart, event log and the stores stay, and the
other port too, but for a NOTICE that waited (R4, R20). That the time base stays is the model's choice: a command takes no time (log
entry 1). -/
def Obligations.DataRequestsLeaveTheRest : Prop :=
  ∀ (s : State) (p : PortId) (command : Instr), s.noticeWaits = true →
    command ∈ [.unknownFrameKind p, .read p, .write p, .clear p, .collect p, .grant p, .release p, .flush p,
      .flushWithWait p] →
    ∃ t, exec command s = .next t
      ∧ t.resetAsserted = s.resetAsserted ∧ t.windows = s.windows ∧ t.managers = s.managers ∧ t.params = s.params
      ∧ t.restart = s.restart ∧ t.timeBase = s.timeBase ∧ t.log = s.log ∧ t.sequence = s.sequence
      ∧ t.overflow = s.overflow ∧ t.store0 = s.store0 ∧ t.store1 = s.store1 ∧ t.pending = s.pending
      ∧ (∀ r, r ≠ p → t.port r = s.port r)
end

