-- ==== Sys2Proof/Laws/Cells.lean ====
section
/-! SUPPORT. Sets held as bits, indexed bytes and saturating counts: what each operation does, and that the canonical form is
kept. -/

namespace Sys2Proof.Machine

/-! ### Sets -/

theorem inSet_joinSet {k : Nat} (m : BitVec k) (n i : Nat) :
    inSet (joinSet m n) i = (inSet m i || (decide (i < k) && decide (n = i))) := by
  simp only [inSet, joinSet, BitVec.getLsbD_or, BitVec.getLsbD_twoPow]
  by_cases h : n = i
  · subst h; rfl
  · simp [h]

theorem inSet_leaveSet {k : Nat} (m : BitVec k) (n i : Nat) :
    inSet (leaveSet m n) i = (inSet m i && decide (n ≠ i)) := by
  simp only [inSet, leaveSet, BitVec.getLsbD_and, BitVec.getLsbD_not, BitVec.getLsbD_twoPow]
  by_cases h : i < k
  · by_cases h' : n = i
    · subst h'; simp [h]
    · simp [h, h']
  · simp [BitVec.getLsbD_of_ge m i (by omega)]

theorem inSet_lt {k : Nat} {m : BitVec k} {n : Nat} (h : inSet m n = true) : n < k := BitVec.lt_of_getLsbD h

@[simp] theorem inSet_zero {k : Nat} (n : Nat) : inSet 0#k n = false := by simp [inSet]

/-- Two sets with the same members are the same. -/
theorem set_ext {k : Nat} {a b : BitVec k} (h : ∀ i, i < k → inSet a i = inSet b i) : a = b :=
  BitVec.eq_of_getLsbD_eq h

/-- A set without members is empty. -/
theorem set_eq_zero {k : Nat} {m : BitVec k} : m = 0 ↔ ∀ i, inSet m i = false := by
  constructor
  · rintro rfl i; exact inSet_zero i
  · intro h; exact set_ext fun i _ => (h i).trans (inSet_zero i).symm

theorem inSet_foldl_joinSet {k : Nat} (ns : List Nat) (m : BitVec k) (i : Nat) :
    inSet (ns.foldl joinSet m) i = (inSet m i || (decide (i < k) && decide (i ∈ ns))) := by
  induction ns generalizing m with
  | nil => simp
  | cons n ns ih =>
    simp only [List.foldl_cons, ih, inSet_joinSet, List.mem_cons, Bool.or_assoc, ← Bool.and_or_distrib_left]
    by_cases h : n = i
    · subst h; simp
    · have h' : i ≠ n := fun e => h e.symm
      simp [h, h']

/-- The members of the set of a list (chapter 10). -/
theorem inSet_setOfList (k : Nat) (ns : List Nat) (i : Nat) :
    inSet (setOfList k ns) i = (decide (i < k) && decide (i ∈ ns)) := by
  simp only [setOfList, inSet_foldl_joinSet, show (0 : BitVec k) = 0#k from rfl, inSet_zero, Bool.false_or]

/-! ### Reading indexed bytes after an update -/

theorem cellAt_setCell (m : Cells) (k : Nat) (v : Byte) (j : Nat) :
    cellAt (setCell m k v) j = if j = k then some v else cellAt m j := by
  induction m with
  | nil =>
    by_cases h : j = k
    · subst h; simp [setCell, cellAt]
    · simp [setCell, cellAt, h, Ne.symm h]
  | cons c t ih =>
    obtain ⟨a, w⟩ := c
    by_cases h : j = k
    · subst h
      rw [if_pos rfl]
      unfold setCell
      split
      · simp [cellAt]
      · split
        · simp [cellAt]
        · rw [cellAt, if_neg (by omega), ih, if_pos rfl]
    · rw [if_neg h]
      rw [if_neg h] at ih
      unfold setCell
      split
      · rw [cellAt, if_neg (Ne.symm h)]
      · split
        · rename_i hk; subst hk
          rw [cellAt, if_neg (Ne.symm h), cellAt, if_neg (Ne.symm h)]
        · simp only [cellAt, ih]

theorem cellAt_setCells (m : Cells) (k : Nat) (vs : List Byte) (j : Nat) :
    cellAt (setCells m k vs) j = if k ≤ j then (vs[j - k]?).or (cellAt m j) else cellAt m j := by
  induction vs generalizing m k with
  | nil => simp [setCells]
  | cons v vs ih =>
    rw [setCells, ih, cellAt_setCell]
    by_cases h : j = k
    · subst h; simp
    · by_cases h' : k + 1 ≤ j
      · obtain ⟨d, rfl⟩ : ∃ d, j = k + 1 + d := ⟨j - (k + 1), by omega⟩
        rw [if_pos h', if_neg h, if_pos (by omega), show k + 1 + d - (k + 1) = d by omega,
          show k + 1 + d - k = d + 1 by omega, List.getElem?_cons_succ]
      · rw [if_neg h', if_neg h, if_neg (by omega)]

/-- The listed positions of bytes in canonical form come after the first one. -/
theorem cellAt_none_of_wf {a : Nat} {v : Byte} {t : Cells} (h : cellsWf ((a, v) :: t)) {j : Nat} (hj : j ≤ a) :
    cellAt t j = none := by
  induction t generalizing a v with
  | nil => rfl
  | cons c t ih =>
    obtain ⟨b, w⟩ := c
    have hb : a < b := (List.pairwise_cons.1 h).1 _ (List.mem_cons_self ..)
    have h' : cellsWf ((b, w) :: t) := (List.pairwise_cons.1 h).2
    rw [cellAt, if_neg (by omega), ih h' (by omega)]

theorem cellAt_layCells (m : Cells) (base : Nat) (top : Cells) (h : cellsWf top) (j : Nat) :
    cellAt (layCells m base top) j = if base ≤ j then (cellAt top (j - base)).or (cellAt m j) else cellAt m j := by
  induction top generalizing m with
  | nil => simp [layCells, cellAt]
  | cons c t ih =>
    obtain ⟨a, v⟩ := c
    have h' : cellsWf t := (List.pairwise_cons.1 h).2
    rw [layCells, ih _ h', cellAt_setCell]
    by_cases hj : base ≤ j
    · by_cases ha : j = base + a
      · simp [ha, cellAt, cellAt_none_of_wf h (Nat.le_refl a)]
      · rw [if_pos hj, if_pos hj, if_neg ha, cellAt, if_neg (by omega)]
    · rw [if_neg hj, if_neg hj, if_neg (by omega)]

theorem cellAt_append (m n : Cells) (j : Nat) : cellAt (m ++ n) j = (cellAt m j).or (cellAt n j) := by
  induction m with
  | nil => simp [cellAt]
  | cons c t ih => obtain ⟨a, v⟩ := c; simp only [List.cons_append, cellAt, ih]; split <;> simp

theorem cellAt_filter (m : Cells) (q : Nat → Bool) (j : Nat) :
    cellAt (m.filter fun c => q c.1) j = if q j then cellAt m j else none := by
  induction m with
  | nil => simp [cellAt]
  | cons c t ih =>
    obtain ⟨a, v⟩ := c
    simp only [List.filter_cons, cellAt]
    by_cases ha : a = j
    · subst ha; by_cases hq : q a <;> simp [hq, cellAt, ih]
    · by_cases hq : q a <;> simp [hq, cellAt, ha, ih]

theorem cellAt_fill (lo n : Nat) (v : Byte) (j : Nat) :
    cellAt ((List.range n).map fun i => (lo + i, v)) j = if lo ≤ j ∧ j < lo + n then some v else none := by
  induction n with
  | zero => simp [cellAt]
  | succ n ih =>
    rw [List.range_succ, List.map_append, cellAt_append, ih]
    simp only [List.map_cons, List.map_nil, cellAt]
    by_cases h : lo ≤ j ∧ j < lo + n
    · have h2 : lo ≤ j ∧ j < lo + (n + 1) := by omega
      simp [h, h2]
    · by_cases h' : lo + n = j
      · have h2 : lo ≤ j ∧ j < lo + (n + 1) := by omega
        rw [if_neg h, if_pos h', if_pos h2]; rfl
      · have h2 : ¬ (lo ≤ j ∧ j < lo + (n + 1)) := by omega
        rw [if_neg h, if_neg h', if_neg h2]; rfl

theorem cellAt_fillCells (m : Cells) (lo n : Nat) (v : Byte) (j : Nat) :
    cellAt (fillCells m lo n v) j = if lo ≤ j ∧ j < lo + n then some v else cellAt m j := by
  have h1 := cellAt_filter m (fun a => decide (a < lo)) j
  have h2 := cellAt_filter m (fun a => decide (lo + n ≤ a)) j
  simp only [fillCells, cellAt_append, cellAt_fill, h1, h2]
  by_cases h : lo ≤ j ∧ j < lo + n
  · rw [if_pos h, if_neg (by simp; omega), if_pos h]; rfl
  · rw [if_neg h, if_neg h]
    by_cases h' : j < lo
    · simp [h', show ¬ lo + n ≤ j by omega]
    · simp [h', show lo + n ≤ j by omega]

/-! ### Canonical form is kept -/

theorem mem_setCell {m : Cells} {k : Nat} {v : Byte} {c : Nat × Byte} (h : c ∈ setCell m k v) :
    c = (k, v) ∨ c ∈ m := by
  induction m with
  | nil => simpa [setCell] using h
  | cons d t ih =>
    obtain ⟨a, w⟩ := d
    simp only [setCell] at h
    split at h
    · simpa using h
    · split at h
      · simp only [List.mem_cons] at h ⊢; tauto
      · simp only [List.mem_cons] at h ⊢; rcases h with h | h
        · tauto
        · have := ih h; tauto

theorem setCell_wf {m : Cells} (h : cellsWf m) (k : Nat) (v : Byte) : cellsWf (setCell m k v) := by
  induction m with
  | nil => simp [setCell, cellsWf]
  | cons d t ih =>
    obtain ⟨a, w⟩ := d
    have ht : cellsWf t := (List.pairwise_cons.1 h).2
    have ha := (List.pairwise_cons.1 h).1
    simp only [setCell]
    split
    · rename_i hk
      refine List.pairwise_cons.2 ⟨fun c hc => ?_, h⟩
      rcases List.mem_cons.1 hc with rfl | hc
      · exact hk
      · exact Nat.lt_trans hk (ha c hc)
    · split
      · rename_i hk; subst hk
        exact List.pairwise_cons.2 ⟨ha, ht⟩
      · refine List.pairwise_cons.2 ⟨fun c hc => ?_, ih ht⟩
        rcases mem_setCell hc with rfl | hc
        · simp only; omega
        · exact ha c hc

theorem setCells_wf {m : Cells} (h : cellsWf m) (k : Nat) (vs : List Byte) : cellsWf (setCells m k vs) := by
  induction vs generalizing m k with
  | nil => exact h
  | cons v vs ih => exact ih (setCell_wf h k v) (k + 1)

theorem layCells_wf {m : Cells} (h : cellsWf m) (base : Nat) (top : Cells) : cellsWf (layCells m base top) := by
  induction top generalizing m with
  | nil => exact h
  | cons c t ih => obtain ⟨a, v⟩ := c; exact ih (setCell_wf h (base + a) v)

theorem fillCells_wf {m : Cells} (h : cellsWf m) (lo n : Nat) (v : Byte) : cellsWf (fillCells m lo n v) := by
  refine List.pairwise_append.2 ⟨List.pairwise_append.2 ⟨h.filter _, ?_, ?_⟩, h.filter _, ?_⟩
  · rw [List.pairwise_map]
    exact List.pairwise_lt_range.imp fun hab => by simp only; omega
  · intro a ha b hb
    obtain ⟨i, _, rfl⟩ := List.mem_map.1 hb
    have := (List.mem_filter.1 ha).2
    simp only [decide_eq_true_eq] at this
    simp only; omega
  · intro a ha b hb
    have hb' := (List.mem_filter.1 hb).2
    simp only [decide_eq_true_eq] at hb'
    rcases List.mem_append.1 ha with ha | ha
    · have := (List.mem_filter.1 ha).2
      simp only [decide_eq_true_eq] at this
      omega
    · obtain ⟨i, hi, rfl⟩ := List.mem_map.1 ha
      have := List.mem_range.1 hi
      simp only; omega

theorem nil_wf : cellsWf [] := List.Pairwise.nil

/-! ### Sizes -/

theorem length_setCell_le (m : Cells) (k : Nat) (v : Byte) : (setCell m k v).length ≤ m.length + 1 := by
  induction m with
  | nil => simp [setCell]
  | cons d t ih =>
    obtain ⟨a, w⟩ := d
    simp only [setCell]
    split
    · simp
    · split
      · simp
      · simpa using ih

theorem length_setCells_le (m : Cells) (k : Nat) (vs : List Byte) : (setCells m k vs).length ≤ m.length + vs.length := by
  induction vs generalizing m k with
  | nil => simp [setCells]
  | cons v vs ih =>
    have h1 := ih (setCell m k v) (k + 1)
    have h2 := length_setCell_le m k v
    simp only [setCells, List.length_cons]; omega

theorem setCell_ne_nil (m : Cells) (k : Nat) (v : Byte) : setCell m k v ≠ [] := by
  cases m with
  | nil => simp [setCell]
  | cons d t => obtain ⟨a, w⟩ := d; simp only [setCell]; split <;> [simp; split <;> simp]

/-! ### Counts and times -/

theorem bump_toNat {k : Nat} (n : BitVec k) :
    (bump n).toNat = if n = BitVec.allOnes k then n.toNat else n.toNat + 1 := by
  unfold bump
  split
  · rfl
  · rename_i h
    have hlt := n.isLt
    have : n.toNat ≠ 2 ^ k - 1 := fun hn => h (BitVec.eq_of_toNat_eq (by rw [hn, BitVec.toNat_allOnes]))
    rw [BitVec.toNat_add, show (1 : BitVec k).toNat = 1 % 2 ^ k from rfl, Nat.add_mod_mod, Nat.mod_eq_of_lt (by omega)]

@[simp] theorem runDown_zero (left : Micros) : runDown 0 left = left := rfl

@[simp] theorem runDown_self (left : Micros) : runDown left left = 0 := Nat.sub_self left

end Sys2Proof.Machine
end

