-- ==== Sys2Proof/Laws/State.lean ====
section
/-! SUPPORT. What each update of one piece of state leaves: one lemma a field and update, and what each read answers after each
update. -/

namespace Sys2Proof.Machine.State

/-! ### Replacing a channel -/

@[simp] theorem setChannel_resetAsserted (s : State) (c : ChannelId) (x : Channel) : (s.setChannel c x).resetAsserted = s.resetAsserted := by cases c <;> rfl
@[simp] theorem setChannel_windows (s : State) (c : ChannelId) (x : Channel) : (s.setChannel c x).windows = s.windows := by cases c <;> rfl
@[simp] theorem setChannel_grants (s : State) (c : ChannelId) (x : Channel) : (s.setChannel c x).grants = s.grants := by cases c <;> rfl
@[simp] theorem setChannel_buffers (s : State) (c : ChannelId) (x : Channel) : (s.setChannel c x).buffers = s.buffers := by cases c <;> rfl
@[simp] theorem setChannel_openOrder (s : State) (c : ChannelId) (x : Channel) : (s.setChannel c x).openOrder = s.openOrder := by cases c <;> rfl
@[simp] theorem setChannel_sealList (s : State) (c : ChannelId) (x : Channel) : (s.setChannel c x).sealList = s.sealList := by cases c <;> rfl
@[simp] theorem setChannel_openCounter (s : State) (c : ChannelId) (x : Channel) : (s.setChannel c x).openCounter = s.openCounter := by cases c <;> rfl
@[simp] theorem setChannel_slots (s : State) (c : ChannelId) (x : Channel) : (s.setChannel c x).slots = s.slots := by cases c <;> rfl
@[simp] theorem setChannel_ticketCounter (s : State) (c : ChannelId) (x : Channel) : (s.setChannel c x).ticketCounter = s.ticketCounter := by cases c <;> rfl
@[simp] theorem setChannel_lp0 (s : State) (c : ChannelId) (x : Channel) : (s.setChannel c x).lp0 = s.lp0 := by cases c <;> rfl
@[simp] theorem setChannel_lp1 (s : State) (c : ChannelId) (x : Channel) : (s.setChannel c x).lp1 = s.lp1 := by cases c <;> rfl
@[simp] theorem setChannel_managers (s : State) (c : ChannelId) (x : Channel) : (s.setChannel c x).managers = s.managers := by cases c <;> rfl
@[simp] theorem setChannel_params (s : State) (c : ChannelId) (x : Channel) : (s.setChannel c x).params = s.params := by cases c <;> rfl
@[simp] theorem setChannel_restart (s : State) (c : ChannelId) (x : Channel) : (s.setChannel c x).restart = s.restart := by cases c <;> rfl
@[simp] theorem setChannel_timeBase (s : State) (c : ChannelId) (x : Channel) : (s.setChannel c x).timeBase = s.timeBase := by cases c <;> rfl
@[simp] theorem setChannel_log (s : State) (c : ChannelId) (x : Channel) : (s.setChannel c x).log = s.log := by cases c <;> rfl
@[simp] theorem setChannel_sequence (s : State) (c : ChannelId) (x : Channel) : (s.setChannel c x).sequence = s.sequence := by cases c <;> rfl
@[simp] theorem setChannel_overflow (s : State) (c : ChannelId) (x : Channel) : (s.setChannel c x).overflow = s.overflow := by cases c <;> rfl
@[simp] theorem setChannel_notice (s : State) (c : ChannelId) (x : Channel) : (s.setChannel c x).notice = s.notice := by cases c <;> rfl
@[simp] theorem setChannel_counters (s : State) (c : ChannelId) (x : Channel) : (s.setChannel c x).counters = s.counters := by cases c <;> rfl
@[simp] theorem setChannel_store0 (s : State) (c : ChannelId) (x : Channel) : (s.setChannel c x).store0 = s.store0 := by cases c <;> rfl
@[simp] theorem setChannel_store1 (s : State) (c : ChannelId) (x : Channel) : (s.setChannel c x).store1 = s.store1 := by cases c <;> rfl
@[simp] theorem setChannel_pending (s : State) (c : ChannelId) (x : Channel) : (s.setChannel c x).pending = s.pending := by cases c <;> rfl

/-! ### Replacing a port -/

@[simp] theorem setPort_resetAsserted (s : State) (p : PortId) (x : Port) : (s.setPort p x).resetAsserted = s.resetAsserted := by cases p <;> rfl
@[simp] theorem setPort_windows (s : State) (p : PortId) (x : Port) : (s.setPort p x).windows = s.windows := by cases p <;> rfl
@[simp] theorem setPort_grants (s : State) (p : PortId) (x : Port) : (s.setPort p x).grants = s.grants := by cases p <;> rfl
@[simp] theorem setPort_buffers (s : State) (p : PortId) (x : Port) : (s.setPort p x).buffers = s.buffers := by cases p <;> rfl
@[simp] theorem setPort_openOrder (s : State) (p : PortId) (x : Port) : (s.setPort p x).openOrder = s.openOrder := by cases p <;> rfl
@[simp] theorem setPort_sealList (s : State) (p : PortId) (x : Port) : (s.setPort p x).sealList = s.sealList := by cases p <;> rfl
@[simp] theorem setPort_openCounter (s : State) (p : PortId) (x : Port) : (s.setPort p x).openCounter = s.openCounter := by cases p <;> rfl
@[simp] theorem setPort_slots (s : State) (p : PortId) (x : Port) : (s.setPort p x).slots = s.slots := by cases p <;> rfl
@[simp] theorem setPort_ticketCounter (s : State) (p : PortId) (x : Port) : (s.setPort p x).ticketCounter = s.ticketCounter := by cases p <;> rfl
@[simp] theorem setPort_sc0 (s : State) (p : PortId) (x : Port) : (s.setPort p x).sc0 = s.sc0 := by cases p <;> rfl
@[simp] theorem setPort_sc1 (s : State) (p : PortId) (x : Port) : (s.setPort p x).sc1 = s.sc1 := by cases p <;> rfl
@[simp] theorem setPort_managers (s : State) (p : PortId) (x : Port) : (s.setPort p x).managers = s.managers := by cases p <;> rfl
@[simp] theorem setPort_params (s : State) (p : PortId) (x : Port) : (s.setPort p x).params = s.params := by cases p <;> rfl
@[simp] theorem setPort_restart (s : State) (p : PortId) (x : Port) : (s.setPort p x).restart = s.restart := by cases p <;> rfl
@[simp] theorem setPort_timeBase (s : State) (p : PortId) (x : Port) : (s.setPort p x).timeBase = s.timeBase := by cases p <;> rfl
@[simp] theorem setPort_log (s : State) (p : PortId) (x : Port) : (s.setPort p x).log = s.log := by cases p <;> rfl
@[simp] theorem setPort_sequence (s : State) (p : PortId) (x : Port) : (s.setPort p x).sequence = s.sequence := by cases p <;> rfl
@[simp] theorem setPort_overflow (s : State) (p : PortId) (x : Port) : (s.setPort p x).overflow = s.overflow := by cases p <;> rfl
@[simp] theorem setPort_notice (s : State) (p : PortId) (x : Port) : (s.setPort p x).notice = s.notice := by cases p <;> rfl
@[simp] theorem setPort_counters (s : State) (p : PortId) (x : Port) : (s.setPort p x).counters = s.counters := by cases p <;> rfl
@[simp] theorem setPort_store0 (s : State) (p : PortId) (x : Port) : (s.setPort p x).store0 = s.store0 := by cases p <;> rfl
@[simp] theorem setPort_store1 (s : State) (p : PortId) (x : Port) : (s.setPort p x).store1 = s.store1 := by cases p <;> rfl
@[simp] theorem setPort_pending (s : State) (p : PortId) (x : Port) : (s.setPort p x).pending = s.pending := by cases p <;> rfl

/-! ### Replacing what a store is taken to hold -/

@[simp] theorem setStore_resetAsserted (s : State) (c : ChannelId) (x : Cells) : (s.setStore c x).resetAsserted = s.resetAsserted := by cases c <;> rfl
@[simp] theorem setStore_windows (s : State) (c : ChannelId) (x : Cells) : (s.setStore c x).windows = s.windows := by cases c <;> rfl
@[simp] theorem setStore_grants (s : State) (c : ChannelId) (x : Cells) : (s.setStore c x).grants = s.grants := by cases c <;> rfl
@[simp] theorem setStore_buffers (s : State) (c : ChannelId) (x : Cells) : (s.setStore c x).buffers = s.buffers := by cases c <;> rfl
@[simp] theorem setStore_openOrder (s : State) (c : ChannelId) (x : Cells) : (s.setStore c x).openOrder = s.openOrder := by cases c <;> rfl
@[simp] theorem setStore_sealList (s : State) (c : ChannelId) (x : Cells) : (s.setStore c x).sealList = s.sealList := by cases c <;> rfl
@[simp] theorem setStore_openCounter (s : State) (c : ChannelId) (x : Cells) : (s.setStore c x).openCounter = s.openCounter := by cases c <;> rfl
@[simp] theorem setStore_slots (s : State) (c : ChannelId) (x : Cells) : (s.setStore c x).slots = s.slots := by cases c <;> rfl
@[simp] theorem setStore_ticketCounter (s : State) (c : ChannelId) (x : Cells) : (s.setStore c x).ticketCounter = s.ticketCounter := by cases c <;> rfl
@[simp] theorem setStore_sc0 (s : State) (c : ChannelId) (x : Cells) : (s.setStore c x).sc0 = s.sc0 := by cases c <;> rfl
@[simp] theorem setStore_sc1 (s : State) (c : ChannelId) (x : Cells) : (s.setStore c x).sc1 = s.sc1 := by cases c <;> rfl
@[simp] theorem setStore_lp0 (s : State) (c : ChannelId) (x : Cells) : (s.setStore c x).lp0 = s.lp0 := by cases c <;> rfl
@[simp] theorem setStore_lp1 (s : State) (c : ChannelId) (x : Cells) : (s.setStore c x).lp1 = s.lp1 := by cases c <;> rfl
@[simp] theorem setStore_managers (s : State) (c : ChannelId) (x : Cells) : (s.setStore c x).managers = s.managers := by cases c <;> rfl
@[simp] theorem setStore_params (s : State) (c : ChannelId) (x : Cells) : (s.setStore c x).params = s.params := by cases c <;> rfl
@[simp] theorem setStore_restart (s : State) (c : ChannelId) (x : Cells) : (s.setStore c x).restart = s.restart := by cases c <;> rfl
@[simp] theorem setStore_timeBase (s : State) (c : ChannelId) (x : Cells) : (s.setStore c x).timeBase = s.timeBase := by cases c <;> rfl
@[simp] theorem setStore_log (s : State) (c : ChannelId) (x : Cells) : (s.setStore c x).log = s.log := by cases c <;> rfl
@[simp] theorem setStore_sequence (s : State) (c : ChannelId) (x : Cells) : (s.setStore c x).sequence = s.sequence := by cases c <;> rfl
@[simp] theorem setStore_overflow (s : State) (c : ChannelId) (x : Cells) : (s.setStore c x).overflow = s.overflow := by cases c <;> rfl
@[simp] theorem setStore_notice (s : State) (c : ChannelId) (x : Cells) : (s.setStore c x).notice = s.notice := by cases c <;> rfl
@[simp] theorem setStore_counters (s : State) (c : ChannelId) (x : Cells) : (s.setStore c x).counters = s.counters := by cases c <;> rfl
@[simp] theorem setStore_pending (s : State) (c : ChannelId) (x : Cells) : (s.setStore c x).pending = s.pending := by cases c <;> rfl

/-! ### Replacing a buffer -/

@[simp] theorem setBuffer_resetAsserted (s : State) (b : BufferId) (x : Option Buffer) : (s.setBuffer b x).resetAsserted = s.resetAsserted := rfl
@[simp] theorem setBuffer_windows (s : State) (b : BufferId) (x : Option Buffer) : (s.setBuffer b x).windows = s.windows := rfl
@[simp] theorem setBuffer_grants (s : State) (b : BufferId) (x : Option Buffer) : (s.setBuffer b x).grants = s.grants := rfl
@[simp] theorem setBuffer_openOrder (s : State) (b : BufferId) (x : Option Buffer) : (s.setBuffer b x).openOrder = s.openOrder := rfl
@[simp] theorem setBuffer_sealList (s : State) (b : BufferId) (x : Option Buffer) : (s.setBuffer b x).sealList = s.sealList := rfl
@[simp] theorem setBuffer_openCounter (s : State) (b : BufferId) (x : Option Buffer) : (s.setBuffer b x).openCounter = s.openCounter := rfl
@[simp] theorem setBuffer_slots (s : State) (b : BufferId) (x : Option Buffer) : (s.setBuffer b x).slots = s.slots := rfl
@[simp] theorem setBuffer_ticketCounter (s : State) (b : BufferId) (x : Option Buffer) : (s.setBuffer b x).ticketCounter = s.ticketCounter := rfl
@[simp] theorem setBuffer_sc0 (s : State) (b : BufferId) (x : Option Buffer) : (s.setBuffer b x).sc0 = s.sc0 := rfl
@[simp] theorem setBuffer_sc1 (s : State) (b : BufferId) (x : Option Buffer) : (s.setBuffer b x).sc1 = s.sc1 := rfl
@[simp] theorem setBuffer_lp0 (s : State) (b : BufferId) (x : Option Buffer) : (s.setBuffer b x).lp0 = s.lp0 := rfl
@[simp] theorem setBuffer_lp1 (s : State) (b : BufferId) (x : Option Buffer) : (s.setBuffer b x).lp1 = s.lp1 := rfl
@[simp] theorem setBuffer_managers (s : State) (b : BufferId) (x : Option Buffer) : (s.setBuffer b x).managers = s.managers := rfl
@[simp] theorem setBuffer_params (s : State) (b : BufferId) (x : Option Buffer) : (s.setBuffer b x).params = s.params := rfl
@[simp] theorem setBuffer_restart (s : State) (b : BufferId) (x : Option Buffer) : (s.setBuffer b x).restart = s.restart := rfl
@[simp] theorem setBuffer_timeBase (s : State) (b : BufferId) (x : Option Buffer) : (s.setBuffer b x).timeBase = s.timeBase := rfl
@[simp] theorem setBuffer_log (s : State) (b : BufferId) (x : Option Buffer) : (s.setBuffer b x).log = s.log := rfl
@[simp] theorem setBuffer_sequence (s : State) (b : BufferId) (x : Option Buffer) : (s.setBuffer b x).sequence = s.sequence := rfl
@[simp] theorem setBuffer_overflow (s : State) (b : BufferId) (x : Option Buffer) : (s.setBuffer b x).overflow = s.overflow := rfl
@[simp] theorem setBuffer_notice (s : State) (b : BufferId) (x : Option Buffer) : (s.setBuffer b x).notice = s.notice := rfl
@[simp] theorem setBuffer_counters (s : State) (b : BufferId) (x : Option Buffer) : (s.setBuffer b x).counters = s.counters := rfl
@[simp] theorem setBuffer_store0 (s : State) (b : BufferId) (x : Option Buffer) : (s.setBuffer b x).store0 = s.store0 := rfl
@[simp] theorem setBuffer_store1 (s : State) (b : BufferId) (x : Option Buffer) : (s.setBuffer b x).store1 = s.store1 := rfl
@[simp] theorem setBuffer_pending (s : State) (b : BufferId) (x : Option Buffer) : (s.setBuffer b x).pending = s.pending := rfl

/-! ### Replacing a slot -/

@[simp] theorem setSlot_resetAsserted (s : State) (i : SlotId) (x : Option Slot) : (s.setSlot i x).resetAsserted = s.resetAsserted := rfl
@[simp] theorem setSlot_windows (s : State) (i : SlotId) (x : Option Slot) : (s.setSlot i x).windows = s.windows := rfl
@[simp] theorem setSlot_grants (s : State) (i : SlotId) (x : Option Slot) : (s.setSlot i x).grants = s.grants := rfl
@[simp] theorem setSlot_buffers (s : State) (i : SlotId) (x : Option Slot) : (s.setSlot i x).buffers = s.buffers := rfl
@[simp] theorem setSlot_openOrder (s : State) (i : SlotId) (x : Option Slot) : (s.setSlot i x).openOrder = s.openOrder := rfl
@[simp] theorem setSlot_sealList (s : State) (i : SlotId) (x : Option Slot) : (s.setSlot i x).sealList = s.sealList := rfl
@[simp] theorem setSlot_openCounter (s : State) (i : SlotId) (x : Option Slot) : (s.setSlot i x).openCounter = s.openCounter := rfl
@[simp] theorem setSlot_ticketCounter (s : State) (i : SlotId) (x : Option Slot) : (s.setSlot i x).ticketCounter = s.ticketCounter := rfl
@[simp] theorem setSlot_sc0 (s : State) (i : SlotId) (x : Option Slot) : (s.setSlot i x).sc0 = s.sc0 := rfl
@[simp] theorem setSlot_sc1 (s : State) (i : SlotId) (x : Option Slot) : (s.setSlot i x).sc1 = s.sc1 := rfl
@[simp] theorem setSlot_lp0 (s : State) (i : SlotId) (x : Option Slot) : (s.setSlot i x).lp0 = s.lp0 := rfl
@[simp] theorem setSlot_lp1 (s : State) (i : SlotId) (x : Option Slot) : (s.setSlot i x).lp1 = s.lp1 := rfl
@[simp] theorem setSlot_managers (s : State) (i : SlotId) (x : Option Slot) : (s.setSlot i x).managers = s.managers := rfl
@[simp] theorem setSlot_params (s : State) (i : SlotId) (x : Option Slot) : (s.setSlot i x).params = s.params := rfl
@[simp] theorem setSlot_restart (s : State) (i : SlotId) (x : Option Slot) : (s.setSlot i x).restart = s.restart := rfl
@[simp] theorem setSlot_timeBase (s : State) (i : SlotId) (x : Option Slot) : (s.setSlot i x).timeBase = s.timeBase := rfl
@[simp] theorem setSlot_log (s : State) (i : SlotId) (x : Option Slot) : (s.setSlot i x).log = s.log := rfl
@[simp] theorem setSlot_sequence (s : State) (i : SlotId) (x : Option Slot) : (s.setSlot i x).sequence = s.sequence := rfl
@[simp] theorem setSlot_overflow (s : State) (i : SlotId) (x : Option Slot) : (s.setSlot i x).overflow = s.overflow := rfl
@[simp] theorem setSlot_notice (s : State) (i : SlotId) (x : Option Slot) : (s.setSlot i x).notice = s.notice := rfl
@[simp] theorem setSlot_counters (s : State) (i : SlotId) (x : Option Slot) : (s.setSlot i x).counters = s.counters := rfl
@[simp] theorem setSlot_store0 (s : State) (i : SlotId) (x : Option Slot) : (s.setSlot i x).store0 = s.store0 := rfl
@[simp] theorem setSlot_store1 (s : State) (i : SlotId) (x : Option Slot) : (s.setSlot i x).store1 = s.store1 := rfl
@[simp] theorem setSlot_pending (s : State) (i : SlotId) (x : Option Slot) : (s.setSlot i x).pending = s.pending := rfl

/-! ### Replacing a grant record -/

@[simp] theorem setGrant_resetAsserted (s : State) (w : WindowId) (x : Option Grant) : (s.setGrant w x).resetAsserted = s.resetAsserted := rfl
@[simp] theorem setGrant_windows (s : State) (w : WindowId) (x : Option Grant) : (s.setGrant w x).windows = s.windows := rfl
@[simp] theorem setGrant_buffers (s : State) (w : WindowId) (x : Option Grant) : (s.setGrant w x).buffers = s.buffers := rfl
@[simp] theorem setGrant_openOrder (s : State) (w : WindowId) (x : Option Grant) : (s.setGrant w x).openOrder = s.openOrder := rfl
@[simp] theorem setGrant_sealList (s : State) (w : WindowId) (x : Option Grant) : (s.setGrant w x).sealList = s.sealList := rfl
@[simp] theorem setGrant_openCounter (s : State) (w : WindowId) (x : Option Grant) : (s.setGrant w x).openCounter = s.openCounter := rfl
@[simp] theorem setGrant_slots (s : State) (w : WindowId) (x : Option Grant) : (s.setGrant w x).slots = s.slots := rfl
@[simp] theorem setGrant_ticketCounter (s : State) (w : WindowId) (x : Option Grant) : (s.setGrant w x).ticketCounter = s.ticketCounter := rfl
@[simp] theorem setGrant_sc0 (s : State) (w : WindowId) (x : Option Grant) : (s.setGrant w x).sc0 = s.sc0 := rfl
@[simp] theorem setGrant_sc1 (s : State) (w : WindowId) (x : Option Grant) : (s.setGrant w x).sc1 = s.sc1 := rfl
@[simp] theorem setGrant_lp0 (s : State) (w : WindowId) (x : Option Grant) : (s.setGrant w x).lp0 = s.lp0 := rfl
@[simp] theorem setGrant_lp1 (s : State) (w : WindowId) (x : Option Grant) : (s.setGrant w x).lp1 = s.lp1 := rfl
@[simp] theorem setGrant_managers (s : State) (w : WindowId) (x : Option Grant) : (s.setGrant w x).managers = s.managers := rfl
@[simp] theorem setGrant_params (s : State) (w : WindowId) (x : Option Grant) : (s.setGrant w x).params = s.params := rfl
@[simp] theorem setGrant_restart (s : State) (w : WindowId) (x : Option Grant) : (s.setGrant w x).restart = s.restart := rfl
@[simp] theorem setGrant_timeBase (s : State) (w : WindowId) (x : Option Grant) : (s.setGrant w x).timeBase = s.timeBase := rfl
@[simp] theorem setGrant_log (s : State) (w : WindowId) (x : Option Grant) : (s.setGrant w x).log = s.log := rfl
@[simp] theorem setGrant_sequence (s : State) (w : WindowId) (x : Option Grant) : (s.setGrant w x).sequence = s.sequence := rfl
@[simp] theorem setGrant_overflow (s : State) (w : WindowId) (x : Option Grant) : (s.setGrant w x).overflow = s.overflow := rfl
@[simp] theorem setGrant_notice (s : State) (w : WindowId) (x : Option Grant) : (s.setGrant w x).notice = s.notice := rfl
@[simp] theorem setGrant_counters (s : State) (w : WindowId) (x : Option Grant) : (s.setGrant w x).counters = s.counters := rfl
@[simp] theorem setGrant_store0 (s : State) (w : WindowId) (x : Option Grant) : (s.setGrant w x).store0 = s.store0 := rfl
@[simp] theorem setGrant_store1 (s : State) (w : WindowId) (x : Option Grant) : (s.setGrant w x).store1 = s.store1 := rfl
@[simp] theorem setGrant_pending (s : State) (w : WindowId) (x : Option Grant) : (s.setGrant w x).pending = s.pending := rfl

/-! ### Replacing a window entry -/

@[simp] theorem setWindow_resetAsserted (s : State) (w : WindowId) (x : WindowEntry) : (s.setWindow w x).resetAsserted = s.resetAsserted := rfl
@[simp] theorem setWindow_grants (s : State) (w : WindowId) (x : WindowEntry) : (s.setWindow w x).grants = s.grants := rfl
@[simp] theorem setWindow_buffers (s : State) (w : WindowId) (x : WindowEntry) : (s.setWindow w x).buffers = s.buffers := rfl
@[simp] theorem setWindow_openOrder (s : State) (w : WindowId) (x : WindowEntry) : (s.setWindow w x).openOrder = s.openOrder := rfl
@[simp] theorem setWindow_sealList (s : State) (w : WindowId) (x : WindowEntry) : (s.setWindow w x).sealList = s.sealList := rfl
@[simp] theorem setWindow_openCounter (s : State) (w : WindowId) (x : WindowEntry) : (s.setWindow w x).openCounter = s.openCounter := rfl
@[simp] theorem setWindow_slots (s : State) (w : WindowId) (x : WindowEntry) : (s.setWindow w x).slots = s.slots := rfl
@[simp] theorem setWindow_ticketCounter (s : State) (w : WindowId) (x : WindowEntry) : (s.setWindow w x).ticketCounter = s.ticketCounter := rfl
@[simp] theorem setWindow_sc0 (s : State) (w : WindowId) (x : WindowEntry) : (s.setWindow w x).sc0 = s.sc0 := rfl
@[simp] theorem setWindow_sc1 (s : State) (w : WindowId) (x : WindowEntry) : (s.setWindow w x).sc1 = s.sc1 := rfl
@[simp] theorem setWindow_lp0 (s : State) (w : WindowId) (x : WindowEntry) : (s.setWindow w x).lp0 = s.lp0 := rfl
@[simp] theorem setWindow_lp1 (s : State) (w : WindowId) (x : WindowEntry) : (s.setWindow w x).lp1 = s.lp1 := rfl
@[simp] theorem setWindow_managers (s : State) (w : WindowId) (x : WindowEntry) : (s.setWindow w x).managers = s.managers := rfl
@[simp] theorem setWindow_params (s : State) (w : WindowId) (x : WindowEntry) : (s.setWindow w x).params = s.params := rfl
@[simp] theorem setWindow_restart (s : State) (w : WindowId) (x : WindowEntry) : (s.setWindow w x).restart = s.restart := rfl
@[simp] theorem setWindow_timeBase (s : State) (w : WindowId) (x : WindowEntry) : (s.setWindow w x).timeBase = s.timeBase := rfl
@[simp] theorem setWindow_log (s : State) (w : WindowId) (x : WindowEntry) : (s.setWindow w x).log = s.log := rfl
@[simp] theorem setWindow_sequence (s : State) (w : WindowId) (x : WindowEntry) : (s.setWindow w x).sequence = s.sequence := rfl
@[simp] theorem setWindow_overflow (s : State) (w : WindowId) (x : WindowEntry) : (s.setWindow w x).overflow = s.overflow := rfl
@[simp] theorem setWindow_notice (s : State) (w : WindowId) (x : WindowEntry) : (s.setWindow w x).notice = s.notice := rfl
@[simp] theorem setWindow_counters (s : State) (w : WindowId) (x : WindowEntry) : (s.setWindow w x).counters = s.counters := rfl
@[simp] theorem setWindow_store0 (s : State) (w : WindowId) (x : WindowEntry) : (s.setWindow w x).store0 = s.store0 := rfl
@[simp] theorem setWindow_store1 (s : State) (w : WindowId) (x : WindowEntry) : (s.setWindow w x).store1 = s.store1 := rfl
@[simp] theorem setWindow_pending (s : State) (w : WindowId) (x : WindowEntry) : (s.setWindow w x).pending = s.pending := rfl

/-! ### Replacing the part-wide counters -/

@[simp] theorem setCounters_resetAsserted (s : State) (x : PartCounters) : (s.setCounters x).resetAsserted = s.resetAsserted := rfl
@[simp] theorem setCounters_windows (s : State) (x : PartCounters) : (s.setCounters x).windows = s.windows := rfl
@[simp] theorem setCounters_grants (s : State) (x : PartCounters) : (s.setCounters x).grants = s.grants := rfl
@[simp] theorem setCounters_buffers (s : State) (x : PartCounters) : (s.setCounters x).buffers = s.buffers := rfl
@[simp] theorem setCounters_openOrder (s : State) (x : PartCounters) : (s.setCounters x).openOrder = s.openOrder := rfl
@[simp] theorem setCounters_sealList (s : State) (x : PartCounters) : (s.setCounters x).sealList = s.sealList := rfl
@[simp] theorem setCounters_openCounter (s : State) (x : PartCounters) : (s.setCounters x).openCounter = s.openCounter := rfl
@[simp] theorem setCounters_slots (s : State) (x : PartCounters) : (s.setCounters x).slots = s.slots := rfl
@[simp] theorem setCounters_ticketCounter (s : State) (x : PartCounters) : (s.setCounters x).ticketCounter = s.ticketCounter := rfl
@[simp] theorem setCounters_sc0 (s : State) (x : PartCounters) : (s.setCounters x).sc0 = s.sc0 := rfl
@[simp] theorem setCounters_sc1 (s : State) (x : PartCounters) : (s.setCounters x).sc1 = s.sc1 := rfl
@[simp] theorem setCounters_lp0 (s : State) (x : PartCounters) : (s.setCounters x).lp0 = s.lp0 := rfl
@[simp] theorem setCounters_lp1 (s : State) (x : PartCounters) : (s.setCounters x).lp1 = s.lp1 := rfl
@[simp] theorem setCounters_managers (s : State) (x : PartCounters) : (s.setCounters x).managers = s.managers := rfl
@[simp] theorem setCounters_params (s : State) (x : PartCounters) : (s.setCounters x).params = s.params := rfl
@[simp] theorem setCounters_restart (s : State) (x : PartCounters) : (s.setCounters x).restart = s.restart := rfl
@[simp] theorem setCounters_timeBase (s : State) (x : PartCounters) : (s.setCounters x).timeBase = s.timeBase := rfl
@[simp] theorem setCounters_log (s : State) (x : PartCounters) : (s.setCounters x).log = s.log := rfl
@[simp] theorem setCounters_sequence (s : State) (x : PartCounters) : (s.setCounters x).sequence = s.sequence := rfl
@[simp] theorem setCounters_overflow (s : State) (x : PartCounters) : (s.setCounters x).overflow = s.overflow := rfl
@[simp] theorem setCounters_notice (s : State) (x : PartCounters) : (s.setCounters x).notice = s.notice := rfl
@[simp] theorem setCounters_store0 (s : State) (x : PartCounters) : (s.setCounters x).store0 = s.store0 := rfl
@[simp] theorem setCounters_store1 (s : State) (x : PartCounters) : (s.setCounters x).store1 = s.store1 := rfl
@[simp] theorem setCounters_pending (s : State) (x : PartCounters) : (s.setCounters x).pending = s.pending := rfl

/-! ### The passing of time -/

@[simp] theorem elapse_resetAsserted (n : Micros) (s : State) : (s.elapse n).resetAsserted = s.resetAsserted := rfl
@[simp] theorem elapse_windows (n : Micros) (s : State) : (s.elapse n).windows = s.windows := rfl
@[simp] theorem elapse_openOrder (n : Micros) (s : State) : (s.elapse n).openOrder = s.openOrder := rfl
@[simp] theorem elapse_sealList (n : Micros) (s : State) : (s.elapse n).sealList = s.sealList := rfl
@[simp] theorem elapse_openCounter (n : Micros) (s : State) : (s.elapse n).openCounter = s.openCounter := rfl
@[simp] theorem elapse_ticketCounter (n : Micros) (s : State) : (s.elapse n).ticketCounter = s.ticketCounter := rfl
@[simp] theorem elapse_lp0 (n : Micros) (s : State) : (s.elapse n).lp0 = s.lp0 := rfl
@[simp] theorem elapse_lp1 (n : Micros) (s : State) : (s.elapse n).lp1 = s.lp1 := rfl
@[simp] theorem elapse_managers (n : Micros) (s : State) : (s.elapse n).managers = s.managers := rfl
@[simp] theorem elapse_params (n : Micros) (s : State) : (s.elapse n).params = s.params := rfl
@[simp] theorem elapse_restart (n : Micros) (s : State) : (s.elapse n).restart = s.restart := rfl
@[simp] theorem elapse_log (n : Micros) (s : State) : (s.elapse n).log = s.log := rfl
@[simp] theorem elapse_sequence (n : Micros) (s : State) : (s.elapse n).sequence = s.sequence := rfl
@[simp] theorem elapse_overflow (n : Micros) (s : State) : (s.elapse n).overflow = s.overflow := rfl
@[simp] theorem elapse_notice (n : Micros) (s : State) : (s.elapse n).notice = s.notice := rfl
@[simp] theorem elapse_counters (n : Micros) (s : State) : (s.elapse n).counters = s.counters := rfl
@[simp] theorem elapse_store0 (n : Micros) (s : State) : (s.elapse n).store0 = s.store0 := rfl
@[simp] theorem elapse_store1 (n : Micros) (s : State) : (s.elapse n).store1 = s.store1 := rfl
@[simp] theorem elapse_pending (n : Micros) (s : State) : (s.elapse n).pending = s.pending := rfl

/-! ### Reads after updates -/

@[simp] theorem setChannel_port (s : State) (c : ChannelId) (x : Channel) (p' : PortId) : (s.setChannel c x).port p' = s.port p' := by cases c <;> cases p' <;> rfl
@[simp] theorem setChannel_store (s : State) (c : ChannelId) (x : Channel) (c' : ChannelId) : (s.setChannel c x).store c' = s.store c' := by cases c <;> cases c' <;> rfl
@[simp] theorem setChannel_buffer (s : State) (c : ChannelId) (x : Channel) (b' : BufferId) : (s.setChannel c x).buffer b' = s.buffer b' := by cases c <;> rfl
@[simp] theorem setChannel_slot (s : State) (c : ChannelId) (x : Channel) (i' : SlotId) : (s.setChannel c x).slot i' = s.slot i' := by cases c <;> rfl
@[simp] theorem setChannel_grantOf (s : State) (c : ChannelId) (x : Channel) (w' : WindowId) : (s.setChannel c x).grantOf w' = s.grantOf w' := by cases c <;> rfl
@[simp] theorem setChannel_window (s : State) (c : ChannelId) (x : Channel) (w' : WindowId) : (s.setChannel c x).window w' = s.window w' := by cases c <;> rfl
@[simp] theorem setChannel_restartPending (s : State) (c : ChannelId) (x : Channel) : (s.setChannel c x).restartPending = s.restartPending := by cases c <;> rfl
@[simp] theorem setPort_channel (s : State) (p : PortId) (x : Port) (c' : ChannelId) : (s.setPort p x).channel c' = s.channel c' := by cases p <;> cases c' <;> rfl
@[simp] theorem setPort_store (s : State) (p : PortId) (x : Port) (c' : ChannelId) : (s.setPort p x).store c' = s.store c' := by cases p <;> cases c' <;> rfl
@[simp] theorem setPort_buffer (s : State) (p : PortId) (x : Port) (b' : BufferId) : (s.setPort p x).buffer b' = s.buffer b' := by cases p <;> rfl
@[simp] theorem setPort_slot (s : State) (p : PortId) (x : Port) (i' : SlotId) : (s.setPort p x).slot i' = s.slot i' := by cases p <;> rfl
@[simp] theorem setPort_grantOf (s : State) (p : PortId) (x : Port) (w' : WindowId) : (s.setPort p x).grantOf w' = s.grantOf w' := by cases p <;> rfl
@[simp] theorem setPort_window (s : State) (p : PortId) (x : Port) (w' : WindowId) : (s.setPort p x).window w' = s.window w' := by cases p <;> rfl
@[simp] theorem setPort_restartPending (s : State) (p : PortId) (x : Port) : (s.setPort p x).restartPending = s.restartPending := by cases p <;> rfl
@[simp] theorem setStore_channel (s : State) (c : ChannelId) (x : Cells) (c' : ChannelId) : (s.setStore c x).channel c' = s.channel c' := by cases c <;> cases c' <;> rfl
@[simp] theorem setStore_port (s : State) (c : ChannelId) (x : Cells) (p' : PortId) : (s.setStore c x).port p' = s.port p' := by cases c <;> cases p' <;> rfl
@[simp] theorem setStore_buffer (s : State) (c : ChannelId) (x : Cells) (b' : BufferId) : (s.setStore c x).buffer b' = s.buffer b' := by cases c <;> rfl
@[simp] theorem setStore_slot (s : State) (c : ChannelId) (x : Cells) (i' : SlotId) : (s.setStore c x).slot i' = s.slot i' := by cases c <;> rfl
@[simp] theorem setStore_grantOf (s : State) (c : ChannelId) (x : Cells) (w' : WindowId) : (s.setStore c x).grantOf w' = s.grantOf w' := by cases c <;> rfl
@[simp] theorem setStore_window (s : State) (c : ChannelId) (x : Cells) (w' : WindowId) : (s.setStore c x).window w' = s.window w' := by cases c <;> rfl
@[simp] theorem setStore_restartPending (s : State) (c : ChannelId) (x : Cells) : (s.setStore c x).restartPending = s.restartPending := by cases c <;> rfl
@[simp] theorem setBuffer_channel (s : State) (b : BufferId) (x : Option Buffer) (c' : ChannelId) : (s.setBuffer b x).channel c' = s.channel c' := by cases c' <;> rfl
@[simp] theorem setBuffer_port (s : State) (b : BufferId) (x : Option Buffer) (p' : PortId) : (s.setBuffer b x).port p' = s.port p' := by cases p' <;> rfl
@[simp] theorem setBuffer_store (s : State) (b : BufferId) (x : Option Buffer) (c' : ChannelId) : (s.setBuffer b x).store c' = s.store c' := by cases c' <;> rfl
@[simp] theorem setBuffer_slot (s : State) (b : BufferId) (x : Option Buffer) (i' : SlotId) : (s.setBuffer b x).slot i' = s.slot i' := rfl
@[simp] theorem setBuffer_grantOf (s : State) (b : BufferId) (x : Option Buffer) (w' : WindowId) : (s.setBuffer b x).grantOf w' = s.grantOf w' := rfl
@[simp] theorem setBuffer_window (s : State) (b : BufferId) (x : Option Buffer) (w' : WindowId) : (s.setBuffer b x).window w' = s.window w' := rfl
@[simp] theorem setBuffer_restartPending (s : State) (b : BufferId) (x : Option Buffer) : (s.setBuffer b x).restartPending = s.restartPending := rfl
@[simp] theorem setSlot_channel (s : State) (i : SlotId) (x : Option Slot) (c' : ChannelId) : (s.setSlot i x).channel c' = s.channel c' := by cases c' <;> rfl
@[simp] theorem setSlot_port (s : State) (i : SlotId) (x : Option Slot) (p' : PortId) : (s.setSlot i x).port p' = s.port p' := by cases p' <;> rfl
@[simp] theorem setSlot_store (s : State) (i : SlotId) (x : Option Slot) (c' : ChannelId) : (s.setSlot i x).store c' = s.store c' := by cases c' <;> rfl
@[simp] theorem setSlot_buffer (s : State) (i : SlotId) (x : Option Slot) (b' : BufferId) : (s.setSlot i x).buffer b' = s.buffer b' := rfl
@[simp] theorem setSlot_grantOf (s : State) (i : SlotId) (x : Option Slot) (w' : WindowId) : (s.setSlot i x).grantOf w' = s.grantOf w' := rfl
@[simp] theorem setSlot_window (s : State) (i : SlotId) (x : Option Slot) (w' : WindowId) : (s.setSlot i x).window w' = s.window w' := rfl
@[simp] theorem setSlot_restartPending (s : State) (i : SlotId) (x : Option Slot) : (s.setSlot i x).restartPending = s.restartPending := rfl
@[simp] theorem setGrant_channel (s : State) (w : WindowId) (x : Option Grant) (c' : ChannelId) : (s.setGrant w x).channel c' = s.channel c' := by cases c' <;> rfl
@[simp] theorem setGrant_port (s : State) (w : WindowId) (x : Option Grant) (p' : PortId) : (s.setGrant w x).port p' = s.port p' := by cases p' <;> rfl
@[simp] theorem setGrant_store (s : State) (w : WindowId) (x : Option Grant) (c' : ChannelId) : (s.setGrant w x).store c' = s.store c' := by cases c' <;> rfl
@[simp] theorem setGrant_buffer (s : State) (w : WindowId) (x : Option Grant) (b' : BufferId) : (s.setGrant w x).buffer b' = s.buffer b' := rfl
@[simp] theorem setGrant_slot (s : State) (w : WindowId) (x : Option Grant) (i' : SlotId) : (s.setGrant w x).slot i' = s.slot i' := rfl
@[simp] theorem setGrant_window (s : State) (w : WindowId) (x : Option Grant) (w' : WindowId) : (s.setGrant w x).window w' = s.window w' := rfl
@[simp] theorem setGrant_restartPending (s : State) (w : WindowId) (x : Option Grant) : (s.setGrant w x).restartPending = s.restartPending := rfl
@[simp] theorem setWindow_channel (s : State) (w : WindowId) (x : WindowEntry) (c' : ChannelId) : (s.setWindow w x).channel c' = s.channel c' := by cases c' <;> rfl
@[simp] theorem setWindow_port (s : State) (w : WindowId) (x : WindowEntry) (p' : PortId) : (s.setWindow w x).port p' = s.port p' := by cases p' <;> rfl
@[simp] theorem setWindow_store (s : State) (w : WindowId) (x : WindowEntry) (c' : ChannelId) : (s.setWindow w x).store c' = s.store c' := by cases c' <;> rfl
@[simp] theorem setWindow_buffer (s : State) (w : WindowId) (x : WindowEntry) (b' : BufferId) : (s.setWindow w x).buffer b' = s.buffer b' := rfl
@[simp] theorem setWindow_slot (s : State) (w : WindowId) (x : WindowEntry) (i' : SlotId) : (s.setWindow w x).slot i' = s.slot i' := rfl
@[simp] theorem setWindow_grantOf (s : State) (w : WindowId) (x : WindowEntry) (w' : WindowId) : (s.setWindow w x).grantOf w' = s.grantOf w' := rfl
@[simp] theorem setWindow_restartPending (s : State) (w : WindowId) (x : WindowEntry) : (s.setWindow w x).restartPending = s.restartPending := rfl
@[simp] theorem setCounters_channel (s : State) (x : PartCounters) (c' : ChannelId) : (s.setCounters x).channel c' = s.channel c' := by cases c' <;> rfl
@[simp] theorem setCounters_port (s : State) (x : PartCounters) (p' : PortId) : (s.setCounters x).port p' = s.port p' := by cases p' <;> rfl
@[simp] theorem setCounters_store (s : State) (x : PartCounters) (c' : ChannelId) : (s.setCounters x).store c' = s.store c' := by cases c' <;> rfl
@[simp] theorem setCounters_buffer (s : State) (x : PartCounters) (b' : BufferId) : (s.setCounters x).buffer b' = s.buffer b' := rfl
@[simp] theorem setCounters_slot (s : State) (x : PartCounters) (i' : SlotId) : (s.setCounters x).slot i' = s.slot i' := rfl
@[simp] theorem setCounters_grantOf (s : State) (x : PartCounters) (w' : WindowId) : (s.setCounters x).grantOf w' = s.grantOf w' := rfl
@[simp] theorem setCounters_window (s : State) (x : PartCounters) (w' : WindowId) : (s.setCounters x).window w' = s.window w' := rfl
@[simp] theorem setCounters_restartPending (s : State) (x : PartCounters) : (s.setCounters x).restartPending = s.restartPending := rfl

theorem setChannel_channel (s : State) (c : ChannelId) (x : Channel) (c' : ChannelId) :
    (s.setChannel c x).channel c' = if c' = c then x else s.channel c' := by cases c <;> cases c' <;> rfl

theorem setPort_port (s : State) (p : PortId) (x : Port) (p' : PortId) :
    (s.setPort p x).port p' = if p' = p then x else s.port p' := by cases p <;> cases p' <;> rfl

theorem setStore_store (s : State) (c : ChannelId) (x : Cells) (c' : ChannelId) :
    (s.setStore c x).store c' = if c' = c then x else s.store c' := by cases c <;> cases c' <;> rfl

theorem setBuffer_buffer (s : State) (b : BufferId) (x : Option Buffer) (b' : BufferId) :
    (s.setBuffer b x).buffer b' = if b' = b then x else s.buffer b' := by
  simp only [setBuffer, buffer, Fin.getElem_fin, Vector.getElem_set, Fin.val_inj, eq_comm]

theorem setSlot_slot (s : State) (i : SlotId) (x : Option Slot) (i' : SlotId) :
    (s.setSlot i x).slot i' = if i' = i then x else s.slot i' := by
  simp only [setSlot, slot, Fin.getElem_fin, Vector.getElem_set, Fin.val_inj, eq_comm]

theorem setGrant_grantOf (s : State) (w : WindowId) (x : Option Grant) (w' : WindowId) :
    (s.setGrant w x).grantOf w' = if w' = w then x else s.grantOf w' := by
  simp only [setGrant, grantOf, Fin.getElem_fin, Vector.getElem_set, Fin.val_inj, eq_comm]

theorem setWindow_window (s : State) (w : WindowId) (x : WindowEntry) (w' : WindowId) :
    (s.setWindow w x).window w' = if w' = w then x else s.window w' := by
  simp only [setWindow, window, Fin.getElem_fin, Vector.getElem_set, Fin.val_inj, eq_comm]

@[simp] theorem setChannel_channel_self (s : State) (c : ChannelId) (x : Channel) : (s.setChannel c x).channel c = x := by
  cases c <;> rfl

@[simp] theorem setPort_port_self (s : State) (p : PortId) (x : Port) : (s.setPort p x).port p = x := by cases p <;> rfl

@[simp] theorem setStore_store_self (s : State) (c : ChannelId) (x : Cells) : (s.setStore c x).store c = x := by
  cases c <;> rfl

@[simp] theorem setBuffer_buffer_self (s : State) (b : BufferId) (x : Option Buffer) : (s.setBuffer b x).buffer b = x := by
  simp [setBuffer_buffer]

@[simp] theorem setSlot_slot_self (s : State) (i : SlotId) (x : Option Slot) : (s.setSlot i x).slot i = x := by
  simp [setSlot_slot]

@[simp] theorem setGrant_grantOf_self (s : State) (w : WindowId) (x : Option Grant) : (s.setGrant w x).grantOf w = x := by
  simp [setGrant_grantOf]

@[simp] theorem setWindow_window_self (s : State) (w : WindowId) (x : WindowEntry) : (s.setWindow w x).window w = x := by
  simp [setWindow_window]

@[simp] theorem setCounters_counters (s : State) (x : PartCounters) : (s.setCounters x).counters = x := rfl

/-! ### The two channels and the two ports -/

theorem channel_sc0 (s : State) : s.channel .sc0 = s.sc0 := rfl
theorem channel_sc1 (s : State) : s.channel .sc1 = s.sc1 := rfl
theorem port_lp0 (s : State) : s.port .lp0 = s.lp0 := rfl
theorem port_lp1 (s : State) : s.port .lp1 = s.lp1 := rfl

/-- Replacing a channel, a port, a buffer or a slot by itself changes nothing. -/
theorem setChannel_same (s : State) (c : ChannelId) : s.setChannel c (s.channel c) = s := by cases c <;> rfl
theorem setPort_same (s : State) (p : PortId) : s.setPort p (s.port p) = s := by cases p <;> rfl
theorem setStore_same (s : State) (c : ChannelId) : s.setStore c (s.store c) = s := by cases c <;> rfl

/-- Two reads of a state that agree on every buffer agree on the vector. -/
theorem buffers_ext {s t : State} (h : ∀ b, t.buffer b = s.buffer b) : t.buffers = s.buffers :=
  Vector.ext fun i hi => h ⟨i, hi⟩

theorem slots_ext {s t : State} (h : ∀ i, t.slot i = s.slot i) : t.slots = s.slots := Vector.ext fun i hi => h ⟨i, hi⟩

theorem grants_ext {s t : State} (h : ∀ w, t.grantOf w = s.grantOf w) : t.grants = s.grants :=
  Vector.ext fun i hi => h ⟨i, hi⟩

end Sys2Proof.Machine.State
end

