-- ==== Sys2Proof/Laws/Footprints.lean ====
section
/-! SUPPORT. What each shared operation leaves as it was, said once. -/

namespace Sys2Proof.Machine

/-- t is s but for work: live buffers, seal list, slots and channels. Nothing opened or freed, logged, counted or stored. -/
structure WorkOnly (s t : State) : Prop where
  resetAsserted : t.resetAsserted = s.resetAsserted
  windows : t.windows = s.windows
  grants : t.grants = s.grants
  openOrder : t.openOrder = s.openOrder
  openCounter : t.openCounter = s.openCounter
  ticketCounter : t.ticketCounter = s.ticketCounter
  lp0 : t.lp0 = s.lp0
  lp1 : t.lp1 = s.lp1
  managers : t.managers = s.managers
  params : t.params = s.params
  restart : t.restart = s.restart
  timeBase : t.timeBase = s.timeBase
  log : t.log = s.log
  sequence : t.sequence = s.sequence
  overflow : t.overflow = s.overflow
  notice : t.notice = s.notice
  counters : t.counters = s.counters
  store0 : t.store0 = s.store0
  store1 : t.store1 = s.store1
  pending : t.pending = s.pending

/-- t is s but for the work and its consequences: the pool, the slots, the channels, the log, the part-wide counters and what the
stores are taken to hold. Windows, grants, ports, parameters and the two counters of openings and tickets stay. -/
structure Inside (s t : State) : Prop where
  resetAsserted : t.resetAsserted = s.resetAsserted
  windows : t.windows = s.windows
  grants : t.grants = s.grants
  openCounter : t.openCounter = s.openCounter
  ticketCounter : t.ticketCounter = s.ticketCounter
  lp0 : t.lp0 = s.lp0
  lp1 : t.lp1 = s.lp1
  managers : t.managers = s.managers
  params : t.params = s.params
  restart : t.restart = s.restart
  timeBase : t.timeBase = s.timeBase
  pending : t.pending = s.pending

/-- The part-wide log and counters, the stores and the order of openings stay as well. -/
structure SameStores (s t : State) : Prop where
  store0 : t.store0 = s.store0
  store1 : t.store1 = s.store1

namespace WorkOnly

theorem refl (s : State) : WorkOnly s s := by constructor <;> rfl

theorem trans {s t u : State} (h : WorkOnly s t) (k : WorkOnly t u) : WorkOnly s u where
  resetAsserted := k.resetAsserted.trans h.resetAsserted
  windows := k.windows.trans h.windows
  grants := k.grants.trans h.grants
  openOrder := k.openOrder.trans h.openOrder
  openCounter := k.openCounter.trans h.openCounter
  ticketCounter := k.ticketCounter.trans h.ticketCounter
  lp0 := k.lp0.trans h.lp0
  lp1 := k.lp1.trans h.lp1
  managers := k.managers.trans h.managers
  params := k.params.trans h.params
  restart := k.restart.trans h.restart
  timeBase := k.timeBase.trans h.timeBase
  log := k.log.trans h.log
  sequence := k.sequence.trans h.sequence
  overflow := k.overflow.trans h.overflow
  notice := k.notice.trans h.notice
  counters := k.counters.trans h.counters
  store0 := k.store0.trans h.store0
  store1 := k.store1.trans h.store1
  pending := k.pending.trans h.pending

theorem inside {s t : State} (h : WorkOnly s t) : Inside s t where
  resetAsserted := h.resetAsserted
  windows := h.windows
  grants := h.grants
  openCounter := h.openCounter
  ticketCounter := h.ticketCounter
  lp0 := h.lp0
  lp1 := h.lp1
  managers := h.managers
  params := h.params
  restart := h.restart
  timeBase := h.timeBase
  pending := h.pending

theorem sameStores {s t : State} (h : WorkOnly s t) : SameStores s t := ⟨h.store0, h.store1⟩

end WorkOnly

namespace Inside

theorem refl (s : State) : Inside s s := by constructor <;> rfl

theorem trans {s t u : State} (h : Inside s t) (k : Inside t u) : Inside s u where
  resetAsserted := k.resetAsserted.trans h.resetAsserted
  windows := k.windows.trans h.windows
  grants := k.grants.trans h.grants
  openCounter := k.openCounter.trans h.openCounter
  ticketCounter := k.ticketCounter.trans h.ticketCounter
  lp0 := k.lp0.trans h.lp0
  lp1 := k.lp1.trans h.lp1
  managers := k.managers.trans h.managers
  params := k.params.trans h.params
  restart := k.restart.trans h.restart
  timeBase := k.timeBase.trans h.timeBase
  pending := k.pending.trans h.pending

theorem port {s t : State} (h : Inside s t) (p : PortId) : t.port p = s.port p := by
  cases p
  · exact h.lp0
  · exact h.lp1

theorem window {s t : State} (h : Inside s t) (w : WindowId) : t.window w = s.window w := by
  simp only [State.window, h.windows]

theorem grantOf {s t : State} (h : Inside s t) (w : WindowId) : t.grantOf w = s.grantOf w := by
  simp only [State.grantOf, h.grants]

end Inside

namespace SameStores

theorem refl (s : State) : SameStores s s := ⟨rfl, rfl⟩

theorem trans {s t u : State} (h : SameStores s t) (k : SameStores t u) : SameStores s u :=
  ⟨k.store0.trans h.store0, k.store1.trans h.store1⟩

end SameStores

/-! ### Folds -/

theorem workOnly_foldl {α : Type} (f : State → α → State) (hf : ∀ s a, WorkOnly s (f s a)) (as : List α) (s : State) :
    WorkOnly s (as.foldl f s) := by
  induction as generalizing s with
  | nil => exact WorkOnly.refl s
  | cons a as ih => exact (hf s a).trans (ih (f s a))

theorem inside_foldl {α : Type} (f : State → α → State) (hf : ∀ s a, Inside s (f s a)) (as : List α) (s : State) :
    Inside s (as.foldl f s) := by
  induction as generalizing s with
  | nil => exact Inside.refl s
  | cons a as ih => exact (hf s a).trans (ih (f s a))

theorem sameStores_foldl {α : Type} (f : State → α → State) (hf : ∀ s a, SameStores s (f s a)) (as : List α) (s : State) :
    SameStores s (as.foldl f s) := by
  induction as generalizing s with
  | nil => exact SameStores.refl s
  | cons a as ih => exact (hf s a).trans (ih (f s a))

/-! ### Single changes -/

theorem workOnly_setBuffer (s : State) (b : BufferId) (x : Option Buffer) : WorkOnly s (s.setBuffer b x) := by
  constructor <;> rfl

theorem workOnly_setSlot (s : State) (i : SlotId) (x : Option Slot) : WorkOnly s (s.setSlot i x) := by
  constructor <;> rfl

theorem workOnly_setChannel (s : State) (c : ChannelId) (x : Channel) : WorkOnly s (s.setChannel c x) := by
  cases c <;> constructor <;> rfl

theorem workOnly_mapSlots (s : State) (f : Slot → Slot) : WorkOnly s (s.mapSlots f) := by constructor <;> rfl

theorem workOnly_modifyBuffer (s : State) (b : BufferId) (f : Buffer → Buffer) : WorkOnly s (s.modifyBuffer b f) := by
  unfold State.modifyBuffer
  split
  · exact workOnly_setBuffer ..
  · exact WorkOnly.refl s

theorem workOnly_sealList (s : State) (l : List BufferId) : WorkOnly s { s with sealList := l } := by constructor <;> rfl

theorem workOnly_forgetGrant (s : State) (w : WindowId) : WorkOnly s (s.forgetGrant w) := by constructor <;> rfl

theorem workOnly_slotAttempt (s : State) (i : SlotId) (n : BitVec 8) : WorkOnly s (s.slotAttempt i n) := by
  unfold State.slotAttempt
  split
  · exact workOnly_setSlot ..
  · exact WorkOnly.refl s

theorem workOnly_holdBuffer (s : State) (b : BufferId) (cause : HoldCause) : WorkOnly s (s.holdBuffer b cause) :=
  (workOnly_modifyBuffer s b _).trans (workOnly_mapSlots _ _)

/-! ### Starting, enqueuing, sealing (R31, R37, R38, R78) -/

theorem workOnly_attemptStarted (s : State) (op : Op) (n : BitVec 8) : WorkOnly s (s.attemptStarted op n) := by
  unfold State.attemptStarted
  split
  · exact workOnly_slotAttempt ..
  · exact workOnly_modifyBuffer ..
  · exact WorkOnly.refl s

theorem workOnly_startHead (s : State) (c : ChannelId) : WorkOnly s (s.startHead c) := by
  unfold State.startHead
  split
  · exact WorkOnly.refl s
  · exact (workOnly_setChannel ..).trans (workOnly_attemptStarted ..)

theorem workOnly_appendOp (s : State) (c : ChannelId) (k : OpKind) : WorkOnly s (s.appendOp c k) := by
  unfold State.appendOp
  simp only
  split
  · exact (workOnly_setChannel ..).trans (workOnly_startHead ..)
  · exact workOnly_setChannel ..

theorem workOnly_moveToQueue (s : State) (c : ChannelId) (b : BufferId) (x : Buffer) :
    WorkOnly s (s.moveToQueue c b x) :=
  ((workOnly_setBuffer s b _).trans (workOnly_sealList _ _)).trans (workOnly_appendOp _ c _)

theorem workOnly_enqueueUpTo (c : ChannelId) (n : Nat) (s : State) : WorkOnly s (State.enqueueUpTo c n s) := by
  induction n generalizing s with
  | zero => exact WorkOnly.refl s
  | succ n ih =>
    unfold State.enqueueUpTo
    split
    · exact (workOnly_moveToQueue ..).trans (ih _)
    · exact WorkOnly.refl s

theorem workOnly_tryEnqueue (s : State) (c : ChannelId) : WorkOnly s (s.tryEnqueue c) := workOnly_enqueueUpTo ..

theorem workOnly_listSealed (s : State) (b : BufferId) (x : Buffer) : WorkOnly s (s.listSealed b x) :=
  (workOnly_setBuffer s b _).trans (workOnly_sealList _ _)

theorem workOnly_sealBuffer (s : State) (b : BufferId) : WorkOnly s (s.sealBuffer b) := by
  unfold State.sealBuffer
  split
  · split
    · split
      · exact (workOnly_listSealed ..).trans (workOnly_tryEnqueue ..)
      · exact workOnly_holdBuffer ..
    · exact WorkOnly.refl s
  · exact WorkOnly.refl s

theorem workOnly_sealAllOf (s : State) (bs : List BufferId) : WorkOnly s (s.sealAllOf bs) :=
  workOnly_foldl _ workOnly_sealBuffer bs s

/-- The end of a grant, beyond its record, is work of the pool and the channels. -/
theorem workOnly_endGrant (s : State) (w : WindowId) : WorkOnly (s.setGrant w none) (s.endGrant w) :=
  (workOnly_sealAllOf _ _).trans (workOnly_forgetGrant _ w)

/-! ### Outcomes (R41, R42, R55 to R57, R79 to R81, R88) -/

theorem inside_append (e : Event) (s : State) : Inside s (s.append e) := by
  unfold State.append
  simp only
  split <;> split <;> constructor <;> rfl

theorem sameStores_append (e : Event) (s : State) : SameStores s (s.append e) := by
  unfold State.append
  simp only
  split <;> split <;> constructor <;> rfl

theorem workOnly_fetchSucceeded (s : State) (i : SlotId) (n : BitVec 8) (bytes : List Byte) :
    WorkOnly s (s.fetchSucceeded i n bytes) := by
  unfold State.fetchSucceeded
  split
  · split
    · exact workOnly_setSlot ..
    · exact WorkOnly.refl s
  · exact WorkOnly.refl s

theorem workOnly_fetchRemoved (s : State) (i : SlotId) : WorkOnly s (s.fetchRemoved i) := by
  unfold State.fetchRemoved
  split
  · split
    · exact workOnly_setSlot ..
    · exact WorkOnly.refl s
  · exact WorkOnly.refl s

theorem inside_fetchFailed (s : State) (c : ChannelId) (i : SlotId) (n : BitVec 8) : Inside s (s.fetchFailed c i n) := by
  unfold State.fetchFailed
  split
  · split
    · exact (workOnly_setSlot ..).inside.trans (inside_append ..)
    · exact Inside.refl s
  · exact Inside.refl s

theorem sameStores_fetchFailed (s : State) (c : ChannelId) (i : SlotId) (n : BitVec 8) :
    SameStores s (s.fetchFailed c i n) := by
  unfold State.fetchFailed
  split
  · split
    · exact (workOnly_setSlot ..).sameStores.trans (sameStores_append ..)
    · exact SameStores.refl s
  · exact SameStores.refl s

theorem inside_releaseBuffer (s : State) (b : BufferId) : Inside s (s.releaseBuffer b) := by constructor <;> rfl

theorem sameStores_releaseBuffer (s : State) (b : BufferId) : SameStores s (s.releaseBuffer b) := by constructor <;> rfl

theorem inside_setCounters (s : State) (k : PartCounters) : Inside s (s.setCounters k) := by constructor <;> rfl

theorem sameStores_setCounters (s : State) (k : PartCounters) : SameStores s (s.setCounters k) := by constructor <;> rfl

theorem inside_setStore (s : State) (c : ChannelId) (m : Cells) : Inside s (s.setStore c m) := by
  cases c <;> constructor <;> rfl

theorem inside_programSucceeded (s : State) (b : BufferId) : Inside s (s.programSucceeded b) :=
  (inside_releaseBuffer s b).trans (workOnly_mapSlots _ _).inside

theorem inside_programFailed (s : State) (c : ChannelId) (pg : BitVec 16) (b : BufferId) :
    Inside s (s.programFailed c pg b) := (workOnly_holdBuffer s b _).inside.trans (inside_append ..)

theorem sameStores_programFailed (s : State) (c : ChannelId) (pg : BitVec 16) (b : BufferId) :
    SameStores s (s.programFailed c pg b) := (workOnly_holdBuffer s b _).sameStores.trans (sameStores_append ..)

theorem inside_opSucceeded (s : State) (c : ChannelId) (k : OpKind) (n : BitVec 8) (bytes : List Byte) :
    Inside s (s.opSucceeded c k n bytes) := by
  unfold State.opSucceeded
  simp only
  split
  · exact (inside_setStore ..).trans (workOnly_fetchSucceeded ..).inside
  · exact ((inside_setStore ..).trans (inside_programSucceeded ..)).trans (inside_setCounters ..)
  · exact inside_setStore ..

theorem inside_opFailed (s : State) (c : ChannelId) (k : OpKind) (n : BitVec 8) : Inside s (s.opFailed c k n) := by
  unfold State.opFailed
  split
  · exact inside_fetchFailed ..
  · exact inside_programFailed ..
  · exact inside_append ..

theorem sameStores_opFailed (s : State) (c : ChannelId) (k : OpKind) (n : BitVec 8) : SameStores s (s.opFailed c k n) := by
  unfold State.opFailed
  split
  · exact sameStores_fetchFailed ..
  · exact sameStores_programFailed ..
  · exact sameStores_append ..

theorem inside_opRemoved (c : ChannelId) (s : State) (op : Op) : Inside s (State.opRemoved c s op) := by
  unfold State.opRemoved
  split
  · exact (workOnly_fetchRemoved ..).inside
  · exact (workOnly_holdBuffer ..).inside
  · exact inside_append ..

theorem sameStores_opRemoved (c : ChannelId) (s : State) (op : Op) : SameStores s (State.opRemoved c s op) := by
  unfold State.opRemoved
  split
  · exact (workOnly_fetchRemoved ..).sameStores
  · exact (workOnly_holdBuffer ..).sameStores
  · exact sameStores_append ..

theorem workOnly_holdSealed (s : State) (c : ChannelId) : WorkOnly s (s.holdSealed c) :=
  (workOnly_sealList s _).trans (workOnly_foldl _ (fun t b => workOnly_holdBuffer t b _) _ _)

theorem inside_offlineEntry (s : State) (c : ChannelId) (cause : OfflineCause) : Inside s (s.offlineEntry c cause) :=
  (((inside_foldl _ (inside_opRemoved c) _ s).trans (workOnly_holdSealed _ c).inside).trans
    (workOnly_setChannel ..).inside).trans (inside_append ..)

theorem sameStores_offlineEntry (s : State) (c : ChannelId) (cause : OfflineCause) :
    SameStores s (s.offlineEntry c cause) :=
  (((sameStores_foldl _ (sameStores_opRemoved c) _ s).trans (workOnly_holdSealed _ c).sameStores).trans
    (workOnly_setChannel ..).sameStores).trans (sameStores_append ..)

theorem inside_afterLeaving (s : State) (c : ChannelId) : Inside s (s.afterLeaving c) := by
  unfold State.afterLeaving
  simp only
  split
  · split
    · exact ((workOnly_tryEnqueue s c).trans (workOnly_setChannel ..)).inside
    · exact ((workOnly_tryEnqueue s c).trans (workOnly_startHead ..)).inside
  · exact (workOnly_tryEnqueue s c).inside.trans (inside_offlineEntry ..)
  · exact (workOnly_tryEnqueue s c).inside
  · exact (workOnly_tryEnqueue s c).inside

theorem sameStores_afterLeaving (s : State) (c : ChannelId) : SameStores s (s.afterLeaving c) := by
  unfold State.afterLeaving
  simp only
  split
  · split
    · exact ((workOnly_tryEnqueue s c).trans (workOnly_setChannel ..)).sameStores
    · exact ((workOnly_tryEnqueue s c).trans (workOnly_startHead ..)).sameStores
  · exact (workOnly_tryEnqueue s c).sameStores.trans (sameStores_offlineEntry ..)
  · exact (workOnly_tryEnqueue s c).sameStores
  · exact (workOnly_tryEnqueue s c).sameStores

theorem inside_headSucceeded (s : State) (c : ChannelId) (op : Op) (bytes : List Byte) :
    Inside s (s.headSucceeded c op bytes) :=
  ((workOnly_setChannel ..).inside.trans (inside_opSucceeded ..)).trans (inside_afterLeaving ..)

theorem inside_headFailedFinally (s : State) (c : ChannelId) (op : Op) : Inside s (s.headFailedFinally c op) :=
  (workOnly_setChannel ..).inside.trans (inside_opFailed ..)

theorem sameStores_headFailedFinally (s : State) (c : ChannelId) (op : Op) : SameStores s (s.headFailedFinally c op) :=
  (workOnly_setChannel ..).sameStores.trans (sameStores_opFailed ..)

theorem inside_noteFailure (s : State) (c : ChannelId) : Inside s (s.noteFailure c) :=
  (workOnly_setChannel ..).inside.trans (inside_setCounters ..)

theorem sameStores_noteFailure (s : State) (c : ChannelId) : SameStores s (s.noteFailure c) :=
  (workOnly_setChannel ..).sameStores.trans (sameStores_setCounters ..)

theorem inside_failedAttempt (s : State) (c : ChannelId) (op : Op) : Inside s (s.failedAttempt c op) := by
  unfold State.failedAttempt
  split
  · exact ((inside_noteFailure ..).trans (inside_headFailedFinally ..)).trans (inside_offlineEntry ..)
  · split
    · exact ((inside_noteFailure ..).trans (inside_headFailedFinally ..)).trans (inside_afterLeaving ..)
    · split
      · exact (inside_noteFailure ..).trans (workOnly_startHead ..).inside
      · exact ((inside_noteFailure ..).trans (inside_headFailedFinally ..)).trans (inside_afterLeaving ..)

theorem sameStores_failedAttempt (s : State) (c : ChannelId) (op : Op) : SameStores s (s.failedAttempt c op) := by
  unfold State.failedAttempt
  split
  · exact ((sameStores_noteFailure ..).trans (sameStores_headFailedFinally ..)).trans (sameStores_offlineEntry ..)
  · split
    · exact ((sameStores_noteFailure ..).trans (sameStores_headFailedFinally ..)).trans (sameStores_afterLeaving ..)
    · split
      · exact (sameStores_noteFailure ..).trans (workOnly_startHead ..).sameStores
      · exact ((sameStores_noteFailure ..).trans (sameStores_headFailedFinally ..)).trans (sameStores_afterLeaving ..)

/-! ### The lists of the pool, which a start leaves -/

theorem attemptStarted_sealList (s : State) (op : Op) (n : BitVec 8) : (s.attemptStarted op n).sealList = s.sealList := by
  unfold State.attemptStarted State.slotAttempt State.modifyBuffer
  (repeat' split) <;> rfl

theorem attemptStarted_openOrder (s : State) (op : Op) (n : BitVec 8) : (s.attemptStarted op n).openOrder = s.openOrder := by
  unfold State.attemptStarted State.slotAttempt State.modifyBuffer
  (repeat' split) <;> rfl

theorem startHead_sealList (s : State) (c : ChannelId) : (s.startHead c).sealList = s.sealList := by
  unfold State.startHead
  split
  · rfl
  · rw [attemptStarted_sealList]; simp

theorem startHead_openOrder (s : State) (c : ChannelId) : (s.startHead c).openOrder = s.openOrder := by
  unfold State.startHead
  split
  · rfl
  · rw [attemptStarted_openOrder]; simp

theorem appendOp_sealList (s : State) (c : ChannelId) (k : OpKind) : (s.appendOp c k).sealList = s.sealList := by
  simp only [State.appendOp]
  split
  · rw [startHead_sealList]; simp
  · simp

theorem appendOp_openOrder (s : State) (c : ChannelId) (k : OpKind) : (s.appendOp c k).openOrder = s.openOrder := by
  simp only [State.appendOp]
  split
  · rw [startHead_openOrder]; simp
  · simp

theorem enqueueUpTo_openOrder (c : ChannelId) (n : Nat) (s : State) :
    (State.enqueueUpTo c n s).openOrder = s.openOrder := by
  induction n generalizing s with
  | zero => rfl
  | succ n ih =>
    unfold State.enqueueUpTo
    split
    · rw [ih]; simp only [State.moveToQueue]; rw [appendOp_openOrder]; rfl
    · rfl

theorem tryEnqueue_openOrder (s : State) (c : ChannelId) : (s.tryEnqueue c).openOrder = s.openOrder :=
  enqueueUpTo_openOrder ..

theorem sealBuffer_openOrder (s : State) (b : BufferId) : (s.sealBuffer b).openOrder = s.openOrder := by
  unfold State.sealBuffer
  split
  · split
    · split
      · rw [tryEnqueue_openOrder]; rfl
      · simp only [State.holdBuffer, State.modifyBuffer, State.mapSlots]; split <;> rfl
    · rfl
  · rfl

end Sys2Proof.Machine
end

