-- ==== Sys2Proof/Laws/Frames.lean ====
section
/-! SUPPORT. Bytes of frames and records: single bytes, fields of a header, the trailer's remainder, the size of an event record. -/

namespace Sys2Proof.Machine

theorem bytesOf_one (n : Nat) : bytesOf 1 n = [BitVec.ofNat 8 n] := by simp [bytesOf]

@[simp] theorem length_bytesOf (n x : Nat) : (bytesOf n x).length = n := by simp [bytesOf]

/-- A requester ID as a byte. -/
theorem ofNat_toNat_reqId (q : ReqId) : BitVec.ofNat 8 q.toNat = q.setWidth 8 := by
  apply BitVec.eq_of_toNat_eq
  simp

/-- The bytes of a field are the bytes at its positions. -/
theorem take_drop_eq_byteAt {f : List Byte} {i n : Nat} (h : i + n ≤ f.length) :
    (f.drop i).take n = (List.range n).map fun k => byteAt f (i + k) := by
  apply List.ext_getElem?
  intro k
  by_cases hk : k < n
  · have hi : i + k < f.length := by omega
    simp [hk, byteAt, List.getElem?_eq_getElem hi]
  · simp [hk]

/-- The remainder register as a fold over the bits that enter (R169). -/
theorem crcBits_eq_foldl (bits : List Bool) (r : BitVec 32) :
    crcBits r bits
      = bits.foldl (fun (r : BitVec 32) bit => if r.msb = bit then r <<< 1 else r <<< 1 ^^^ 0x04C11DB7#32) r := by
  induction bits generalizing r with
  | nil => rfl
  | cons b bs ih =>
    simp only [crcBits, List.foldl_cons]
    cases h : r.msb <;> cases b <;> simp [ih]

/-- An event record is sent as sixteen bytes (R172). -/
theorem EventRecord.length_bytes (r : EventRecord) : r.bytes.length = 16 := by simp [EventRecord.bytes]

end Sys2Proof.Machine
end

