-- ==== Sys2Proof/Laws/Taking.lean ====
section
/-! SUPPORT. The taking of a frame: what a command answers when it takes the head frame of its port, what the first steps of a
taking leave, and the checks of the request decoder as rewrite rules. -/

namespace Sys2Proof.Machine

/-! ### A command that takes a frame -/

theorem canTake_of_offers {s : State} {p : PortId} {command : Instr} {f : List Byte} (h : s.offers p command f) :
    s.canTake p = true := by
  obtain ⟨hr, hu, hp, -, -⟩ := h
  simp [State.canTake, Port.hasPlace, hr, hu, hp]

/-- The head frame is taken, served, answered. -/
theorem takeHead_offered {s : State} {p : PortId} {command : Instr} {f : List Byte} (h : s.offers p command f)
    (serve : List Byte → State → Served) :
    s.takeHead p command serve = .next (afterTaking p f (serve f (s.beginTaking p))) := by
  have hc := canTake_of_offers h
  obtain ⟨-, -, -, hf, ht⟩ := h
  obtain ⟨rest, hi⟩ : ∃ rest, (s.port p).inbound = f :: rest := by
    cases hq : (s.port p).inbound with
    | nil => simp [hq] at hf
    | cons a rest => rw [hq] at hf; simp only [List.head?_cons, Option.some.injEq] at hf; exact ⟨rest, by rw [hf]⟩
  simp [State.takeHead, hi, hc, ht]

/-- Nothing is taken when the head frame is another command's, or may not be taken. -/
theorem takeHead_or (s : State) (p : PortId) (command : Instr) (serve : List Byte → State → Served) :
    s.takeHead p command serve = .next s
      ∨ ∃ f, s.offers p command f ∧ s.takeHead p command serve = .next (afterTaking p f (serve f (s.beginTaking p))) := by
  cases hi : (s.port p).inbound with
  | nil => left; simp [State.takeHead, hi]
  | cons f rest =>
    by_cases hc : (s.canTake p && takingCommand p f == command) = true
    · right
      have h := hc
      simp only [State.canTake, Port.hasPlace, Bool.and_eq_true, Bool.not_eq_true', decide_eq_true_eq, beq_iff_eq] at h
      exact ⟨f, ⟨h.1.1, h.1.2.1, h.1.2.2, by simp [hi], h.2⟩, by simp [State.takeHead, hi, hc]⟩
    · left; simp [State.takeHead, hi, hc]

/-! ### Steps 1 and 2 of a taking (R131) -/

section Begin
variable (s : State) (p : PortId)

@[simp] theorem beginTaking_resetAsserted : (s.beginTaking p).resetAsserted = s.resetAsserted := by cases p <;> rfl
@[simp] theorem beginTaking_windows : (s.beginTaking p).windows = s.windows := by cases p <;> rfl
@[simp] theorem beginTaking_grants : (s.beginTaking p).grants = s.grants := by cases p <;> rfl
@[simp] theorem beginTaking_buffers : (s.beginTaking p).buffers = s.buffers := by cases p <;> rfl
@[simp] theorem beginTaking_openOrder : (s.beginTaking p).openOrder = s.openOrder := by cases p <;> rfl
@[simp] theorem beginTaking_sealList : (s.beginTaking p).sealList = s.sealList := by cases p <;> rfl
@[simp] theorem beginTaking_openCounter : (s.beginTaking p).openCounter = s.openCounter := by cases p <;> rfl
@[simp] theorem beginTaking_slots : (s.beginTaking p).slots = s.slots := by cases p <;> rfl
@[simp] theorem beginTaking_ticketCounter : (s.beginTaking p).ticketCounter = s.ticketCounter := by cases p <;> rfl
@[simp] theorem beginTaking_sc0 : (s.beginTaking p).sc0 = s.sc0 := by cases p <;> rfl
@[simp] theorem beginTaking_sc1 : (s.beginTaking p).sc1 = s.sc1 := by cases p <;> rfl
@[simp] theorem beginTaking_managers : (s.beginTaking p).managers = s.managers := by cases p <;> rfl
@[simp] theorem beginTaking_params : (s.beginTaking p).params = s.params := by cases p <;> rfl
@[simp] theorem beginTaking_restart : (s.beginTaking p).restart = s.restart := by cases p <;> rfl
@[simp] theorem beginTaking_timeBase : (s.beginTaking p).timeBase = s.timeBase := by cases p <;> rfl
@[simp] theorem beginTaking_log : (s.beginTaking p).log = s.log := by cases p <;> rfl
@[simp] theorem beginTaking_sequence : (s.beginTaking p).sequence = s.sequence := by cases p <;> rfl
@[simp] theorem beginTaking_overflow : (s.beginTaking p).overflow = s.overflow := by cases p <;> rfl
@[simp] theorem beginTaking_notice : (s.beginTaking p).notice = s.notice := by cases p <;> rfl
@[simp] theorem beginTaking_counters : (s.beginTaking p).counters = s.counters := by cases p <;> rfl
@[simp] theorem beginTaking_store0 : (s.beginTaking p).store0 = s.store0 := by cases p <;> rfl
@[simp] theorem beginTaking_store1 : (s.beginTaking p).store1 = s.store1 := by cases p <;> rfl
@[simp] theorem beginTaking_pending : (s.beginTaking p).pending = s.pending := by cases p <;> rfl
@[simp] theorem beginTaking_window (w : WindowId) : (s.beginTaking p).window w = s.window w := by cases p <;> rfl
@[simp] theorem beginTaking_grantOf (w : WindowId) : (s.beginTaking p).grantOf w = s.grantOf w := by cases p <;> rfl
@[simp] theorem beginTaking_holderOf (w : WindowId) : (s.beginTaking p).holderOf w = s.holderOf w := by cases p <;> rfl
@[simp] theorem beginTaking_buffer (b : BufferId) : (s.beginTaking p).buffer b = s.buffer b := by cases p <;> rfl
@[simp] theorem beginTaking_bufferHas (b : BufferId) (t : Buffer → Bool) :
    (s.beginTaking p).bufferHas b t = s.bufferHas b t := by cases p <;> rfl
@[simp] theorem beginTaking_slot (i : SlotId) : (s.beginTaking p).slot i = s.slot i := by cases p <;> rfl
@[simp] theorem beginTaking_channel (c : ChannelId) : (s.beginTaking p).channel c = s.channel c := by
  cases p <;> cases c <;> rfl
@[simp] theorem beginTaking_store (c : ChannelId) : (s.beginTaking p).store c = s.store c := by cases p <;> cases c <;> rfl
@[simp] theorem beginTaking_restartPending : (s.beginTaking p).restartPending = s.restartPending := by cases p <;> rfl
@[simp] theorem beginTaking_liveWith (t : Buffer → Bool) : (s.beginTaking p).liveWith t = s.liveWith t := by
  cases p <;> rfl
@[simp] theorem beginTaking_liveOn (c : ChannelId) (pg : BitVec 16) : (s.beginTaking p).liveOn c pg = s.liveOn c pg := by
  cases p <;> rfl
@[simp] theorem beginTaking_overlayAt (c : ChannelId) (pg : BitVec 16) (pos : Nat) :
    (s.beginTaking p).overlayAt c pg pos = s.overlayAt c pg pos := by cases p <;> rfl
@[simp] theorem beginTaking_overlay (c : ChannelId) (pg : BitVec 16) (o n : Nat) :
    (s.beginTaking p).overlay c pg o n = s.overlay c pg o n := by cases p <;> rfl
@[simp] theorem beginTaking_freeBuffer : (s.beginTaking p).freeBuffer = s.freeBuffer := by cases p <;> rfl
@[simp] theorem beginTaking_freeSlot : (s.beginTaking p).freeSlot = s.freeSlot := by cases p <;> rfl
@[simp] theorem beginTaking_ownedSlots (q : ReqId) : (s.beginTaking p).ownedSlots q = s.ownedSlots q := by cases p <;> rfl
@[simp] theorem beginTaking_slotFor (q : ReqId) : (s.beginTaking p).slotFor q = s.slotFor q := by cases p <;> rfl
@[simp] theorem beginTaking_issuedTicket : (s.beginTaking p).issuedTicket = s.issuedTicket := by cases p <;> rfl
@[simp] theorem beginTaking_slotOfTicket (t : BitVec 8) : (s.beginTaking p).slotOfTicket t = s.slotOfTicket t := by
  cases p <;> rfl
@[simp] theorem beginTaking_queueHasRoom (c : ChannelId) : (s.beginTaking p).queueHasRoom c = s.queueHasRoom c := by
  cases p <;> cases c <;> rfl
@[simp] theorem beginTaking_matchWindow (q : ReqId) (page : Nat) :
    (s.beginTaking p).matchWindow q page = s.matchWindow q page := by cases p <;> rfl
@[simp] theorem beginTaking_grantFits (q : ReqId) (w : WindowId) : (s.beginTaking p).grantFits q w = s.grantFits q w := by
  cases p <;> rfl
@[simp] theorem beginTaking_windowOnline (w : WindowId) : (s.beginTaking p).windowOnline w = s.windowOnline w := by
  simp [State.windowOnline]
@[simp] theorem beginTaking_openUnder (w : WindowId) : (s.beginTaking p).openUnder w = s.openUnder w := by cases p <;> rfl
@[simp] theorem beginTaking_openBy (q : ReqId) : (s.beginTaking p).openBy q = s.openBy q := by cases p <;> rfl
@[simp] theorem beginTaking_waitedBy (q : ReqId) : (s.beginTaking p).waitedBy q = s.waitedBy q := by cases p <;> rfl
@[simp] theorem beginTaking_cannotCommit (q : ReqId) : (s.beginTaking p).cannotCommit q = s.cannotCommit q := by
  simp [State.cannotCommit]
@[simp] theorem beginTaking_sectorLive (c : ChannelId) (sector : BitVec 12) :
    (s.beginTaking p).sectorLive c sector = s.sectorLive c sector := by cases p <;> rfl

end Begin

/-! ### The checks of the request decoder -/

/-- Checks 1 and 2 pass. -/
theorem withRequest_admitted {f : List Byte} {s : State} {q : ReqId} (hf : frameWellFormed f = true)
    (hr : s.restart = none) (hq : frameRequester f = q) (serve : ReqId → Served) : withRequest f s serve = serve q := by
  simp [withRequest, hf, State.restartPending, hr, hq]

/-- Checks 1 to 3 pass. -/
theorem withWindow_resolved {f : List Byte} {s : State} {q : ReqId} {w : WindowId} (hf : frameWellFormed f = true)
    (hr : s.restart = none) (hq : frameRequester f = q) (hw : s.matchWindow q (frameLinkPage f) = some w)
    (serve : ReqId → WindowId → Served) : withWindow f s serve = serve q w := by
  simp [withWindow, withRequest_admitted hf hr hq, hw]

/-- A data request through a window, resolved. -/
theorem takeHead_resolved {s : State} {p : PortId} {command : Instr} {f : List Byte} {q : ReqId} {w : WindowId}
    (h : s.resolves p command f q w) (serve : List Byte → State → ReqId → WindowId → Served) :
    s.takeHead p command (fun f s => withWindow f s (serve f s))
      = .next (afterTaking p f (serve f (s.beginTaking p) q w)) := by
  obtain ⟨⟨ho, hf, hr, hq⟩, hw⟩ := h
  rw [takeHead_offered ho, withWindow_resolved hf (by simpa using hr) hq (by simpa using hw)]

theorem exec_read_resolved {s : State} {p : PortId} {f : List Byte} {q : ReqId} {w : WindowId}
    (h : s.resolves p (.read p) f q w) :
    exec (.read p) s = .next (afterTaking p f (resolvedRead f (s.beginTaking p) q w)) := takeHead_resolved h resolvedRead

theorem exec_write_resolved {s : State} {p : PortId} {f : List Byte} {q : ReqId} {w : WindowId}
    (h : s.resolves p (.write p) f q w) :
    exec (.write p) s = .next (afterTaking p f (resolvedWrite f (s.beginTaking p) q w)) := takeHead_resolved h resolvedWrite

theorem exec_clear_resolved {s : State} {p : PortId} {f : List Byte} {q : ReqId} {w : WindowId}
    (h : s.resolves p (.clear p) f q w) :
    exec (.clear p) s = .next (afterTaking p f (resolvedClear f (s.beginTaking p) q w)) := takeHead_resolved h resolvedClear

theorem exec_grant_resolved {s : State} {p : PortId} {f : List Byte} {q : ReqId} {w : WindowId}
    (h : s.resolves p (.grant p) f q w) :
    exec (.grant p) s = .next (afterTaking p f (resolvedGrant f (s.beginTaking p) q w)) := takeHead_resolved h resolvedGrant

theorem exec_release_resolved {s : State} {p : PortId} {f : List Byte} {q : ReqId} {w : WindowId}
    (h : s.resolves p (.release p) f q w) :
    exec (.release p) s = .next (afterTaking p f (resolvedRelease f (s.beginTaking p) q w)) :=
  takeHead_resolved h resolvedRelease

/-- A data request without an address, admitted. -/
theorem takeHead_admitted {s : State} {p : PortId} {command : Instr} {f : List Byte} {q : ReqId}
    (h : s.admits p command f q) (serve : List Byte → State → ReqId → Served) :
    s.takeHead p command (fun f s => withRequest f s (serve f s))
      = .next (afterTaking p f (serve f (s.beginTaking p) q)) := by
  obtain ⟨ho, hf, hr, hq⟩ := h
  rw [takeHead_offered ho, withRequest_admitted hf (by simpa using hr) hq]

theorem exec_collect_admitted {s : State} {p : PortId} {f : List Byte} {q : ReqId} (h : s.admits p (.collect p) f q) :
    exec (.collect p) s = .next (afterTaking p f ((s.beginTaking p).collectTicket q (frameTicket f))) :=
  takeHead_admitted h fun f s q => s.collectTicket q (frameTicket f)

theorem exec_flush_admitted {s : State} {p : PortId} {f : List Byte} {q : ReqId} (h : s.admits p (.flush p) f q) :
    exec (.flush p) s = .next (afterTaking p f ((s.beginTaking p).flushPool q)) :=
  takeHead_admitted h fun _ s q => s.flushPool q

theorem exec_flushWithWait_admitted {s : State} {p : PortId} {f : List Byte} {q : ReqId}
    (h : s.admits p (.flushWithWait p) f q) :
    exec (.flushWithWait p) s = .next (afterTaking p f ((s.beginTaking p).flushWait q)) :=
  takeHead_admitted h fun _ s q => s.flushWait q

/-- Check 6 passes exactly when the requester may change the window's pages (R15). -/
theorem grantFits_iff (s : State) (q : ReqId) (w : WindowId) : s.grantFits q w = true ↔ s.mayChange q w := by
  simp only [State.grantFits, State.mayChange, Bool.or_eq_true, Bool.not_eq_true', beq_iff_eq]
  cases (s.window w).grantRequired <;> simp

theorem sectorOf_toNat (pg : BitVec 16) : (sectorOf pg).toNat = pg.toNat / 16 := by
  simp [sectorOf, Config.sectorPages]
  have := pg.isLt
  omega

/-- A management operation obeyed: checks 1 and authority pass, then restart and operand size (R9, R141). -/
theorem serveMgmt_obeyed {s : State} {p : PortId} {command : Instr} {f operand : List Byte} {size : Nat}
    {always : Bool} (h : s.obeys p command f operand) (hs : operand.length = size)
    (hr : s.restart = none ∨ always = true) (rule : ReqId → List Byte → State → Answer) :
    s.takeHead p command (serveMgmt size always rule)
      = .next (repliedTo p f (rule (frameRequester f) operand (s.beginTaking p)).1
          (rule (frameRequester f) operand (s.beginTaking p)).2.1
          (rule (frameRequester f) operand (s.beginTaking p)).2.2) := by
  obtain ⟨ho, hf, hm, hop⟩ := h
  have hn : (s.restartPending && !always) = false := by
    rcases hr with hr | hr <;> simp [State.restartPending, hr]
  rw [takeHead_offered ho]
  simp [serveMgmt, withManager, hf, hm, hop, hs, hn, repliedTo]

/-- The same for a command whose meaning is that operation. -/
theorem exec_obeyed {s : State} {p : PortId} {command : Instr} {f operand : List Byte} {size : Nat} {always : Bool}
    {rule : ReqId → List Byte → State → Answer} (he : exec command s = s.takeHead p command (serveMgmt size always rule))
    (h : s.obeys p command f operand) (hs : operand.length = size) (hr : s.restart = none ∨ always = true) :
    exec command s = .next (repliedTo p f (rule (frameRequester f) operand (s.beginTaking p)).1
      (rule (frameRequester f) operand (s.beginTaking p)).2.1
      (rule (frameRequester f) operand (s.beginTaking p)).2.2) := he.trans (serveMgmt_obeyed h hs hr rule)

end Sys2Proof.Machine
end

