-- ==== Sys2Proof/WellFormed.lean ====
section
/-! DEFINITION. Which commands keep to the form the spec gives their senders, judged on the command alone (log entry 22).
A command outside the form still has its meaning: the part drops such a frame (R128) and takes such a completion as the
spec says (R77, R83). -/

namespace Sys2Proof

/-- The sender's form. A link partner sends frames of 20 to 84 bytes (R169); a device sends at most 64 bytes with an OK
completion and none with a FAIL (R76). Every other operand holds exactly the values its type has. -/
def Instr.wellFormed : Instr → Bool
  | .frameArrival _ frame =>
      decide (Config.frameOverhead ≤ frame.length) && decide (frame.length ≤ Config.largestArrival)
  | .linkUp _ | .linkDown _ | .transmissionEnd _ => true
  | .unknownFrameKind _ | .read _ | .write _ | .clear _ | .collect _ => true
  | .grant _ | .release _ | .flush _ | .flushWithWait _ => true
  | .unknownMgmtOperation _ | .windowLoad _ | .windowClear _ | .windowRead _ | .grantRevoke _ => true
  | .bufferRead _ | .bufferRetry _ | .bufferDiscard _ | .sealAll _ => true
  | .channelOffline _ | .channelOnline _ | .eventsRead _ | .countersRead _ | .countersClear _ => true
  | .paramSet _ | .paramRead _ | .mgmtSetWrite _ | .statusRead _ | .restart _ => true
  | .storeCompletion _ _ .ok bytes => decide (bytes.length ≤ Config.largestTransfer)
  | .storeCompletion _ _ .fail bytes => bytes.isEmpty
  | .operationTimerExpiry _ | .idleTimerExpiry _ | .openLimitExpiry _ => true
  | .holdTimerExpiry _ | .inactivityTimerExpiry _ => true
  | .pinReset | .resetDeassertion _ => true

end Sys2Proof
end

