-- ==== Sys2Proof/Tests/Slice0.lean ====
section
/-! SUPPORT. Tests: the sender's form, the trailer, one small step for each command, and for each obligation states and operands
that meet its hypotheses, clause by clause. -/

namespace Sys2Proof.Tests

set_option synthInstance.maxHeartbeats 200000
set_option synthInstance.maxSize 2000
set_option Elab.async false

open Sys2Proof Sys2Proof.Machine

/-! ### The sender's form: what the check refuses and what it passes -/

theorem test_wellFormed_refuses_short_frame : (Instr.frameArrival .lp0 (List.replicate 19 0)).wellFormed = false := by decide
theorem test_wellFormed_refuses_long_frame : (Instr.frameArrival .lp0 (List.replicate 85 0)).wellFormed = false := by
  decide
theorem test_wellFormed_refuses_long_completion :
    (Instr.storeCompletion .sc0 1 .ok (List.replicate 65 0)).wellFormed = false := by decide
theorem test_wellFormed_refuses_fail_with_bytes : (Instr.storeCompletion .sc0 1 .fail [0]).wellFormed = false := by decide
theorem test_wellFormed_passes :
    (Instr.frameArrival .lp0 (List.replicate 20 0)).wellFormed = true
    ∧ (Instr.frameArrival .lp1 (List.replicate 84 0)).wellFormed = true
    ∧ (Instr.storeCompletion .sc1 255 .ok (List.replicate 64 0)).wellFormed = true
    ∧ (Instr.storeCompletion .sc1 255 .fail []).wellFormed = true := by decide

/-! ### The trailer (R169) and the worked frame (10.5) -/

theorem test_crc_check_value :
    crc32 [0x31, 0x32, 0x33, 0x34, 0x35, 0x36, 0x37, 0x38, 0x39] = 0xCBF43926#32 := by decide +kernel

/-- The worked frame: 8 bytes from requester 5 to 0x00010AF8 with tag 0x2C, and its answer; with ticket 3 it is malformed. -/
theorem test_worked_frame :
    let f := fun (ticket : Byte) => withTrailer ([0x02, 5, 0, 0x2C, 0, 0, 0, 8, 0x00, 0x01, 0x0A, 0xF8, ticket, 0, 0, 0]
      ++ [1, 2, 3, 4, 5, 6, 7, 8])
    (f 0).length = 28 ∧ frameIntact (f 0) = true ∧ frameWellFormed (f 0) = true ∧ frameWellFormed (f 3) = false
    ∧ frameLinkPage (f 0) = 0x10A ∧ frameOffset (f 0) = 0xF8
    ∧ frameIntact ((f 0).set 20 0) = false
    ∧ (OutFrame.bytes ⟨5, 0x2C, 1, .ack 8⟩).take 17 = [0x83, 0, 5, 0x2C, 1, 0, 0, 1, 0, 0, 0, 0, 0, 0, 0, 0, 8]
    ∧ (OutFrame.bytes ⟨5, 0x2C, 1, .ack 8⟩).length = 21
    ∧ (OutFrame.bytes ⟨5, 0x2C, 0, .refuse .badFrame⟩).getD 16 0 = 1 := by decide +kernel

/-! ### Small states -/

/-- A frame as a partner sends it: kind, source, flags, length, address, ticket, payload. -/
def frame (kind source flags : Byte) (length address : Nat) (ticket : Byte) (payload : List Byte) : List Byte :=
  withTrailer ([kind, source, 0, 7, 0, flags] ++ bytesOf 2 length ++ bytesOf 4 address ++ [ticket, 0, 0, 0] ++ payload)

def readFrame (q : Byte) (address n : Nat) : List Byte := frame 1 q 0 n address 0 []
def writeFrame (q : Byte) (address : Nat) (bytes : List Byte) : List Byte := frame 2 q 0 bytes.length address 0 bytes
def clearFrame (q : Byte) (address : Nat) : List Byte := frame 3 q 0 0 address 0 []
def collectFrame (q ticket : Byte) : List Byte := frame 4 q 0 0 0 ticket []
def grantFrame (q : Byte) (address : Nat) : List Byte := frame 5 q 0 0 address 0 []
def releaseFrame (q : Byte) (address : Nat) : List Byte := frame 6 q 0 0 address 0 []
def flushFrame (q wait : Byte) : List Byte := frame 7 q wait 0 0 0 []
def mgmtFrame (q code : Byte) (operand : List Byte) : List Byte := frame 8 q 0 (1 + operand.length) 0 0 (code :: operand)

def entryAt (linkBase : BitVec 24) (c : ChannelId) (rights : Rights) (grantRequired : Bool) : WindowEntry :=
  ⟨true, 0xE, linkBase, 32, c, 0, rights, grantRequired⟩

/-- Both ports UP, requester 1 in the management set; windows for requesters 1 to 3 on store pages 0 to 31: link page 0 on SC0,
32 with a grant on SC0, 64 on SC1, 96 for READ alone, 128 for WRITE alone. -/
def part : State :=
  { State.reset with
    resetAsserted := false
    managers := 2
    lp0 := { Port.reset with up := true }
    lp1 := { Port.reset with up := true }
    windows := ((((State.reset.windows.set 0 (entryAt 0 .sc0 ⟨true, true, true⟩ false)).set 1
      (entryAt 32 .sc0 ⟨true, true, true⟩ true)).set 2 (entryAt 64 .sc1 ⟨true, true, true⟩ false)).set 3
      (entryAt 96 .sc0 ⟨true, false, false⟩ false)).set 4 (entryAt 128 .sc0 ⟨false, true, false⟩ false) }

/-- The frame at the head of port LP0. -/
def offering (s : State) (f : List Byte) : State := { s with lp0 := { s.lp0 with inbound := [f] } }

/-- A buffer of requester 1 on page 0 of SC0 with bytes 0 to 3 staged. -/
def staged (phase : BufferPhase) (attempts : Nat) : Buffer :=
  ⟨.sc0, 0, 0, [(0, 10), (1, 11), (2, 12), (3, 13)], 2, 0, phase, attempts⟩

/-- `part` with that buffer as buffer 0. -/
def holding (phase : BufferPhase) (attempts : Nat) : State :=
  { part.setBuffer 0 (some (staged phase attempts)) with
    openOrder := [0], openCounter := 1, sealList := if phase = .sealed then [0] else [] }

/-- `s` with SC0 at work on an operation. -/
def working (s : State) (state : ChannelState) (queue : List Op) : State :=
  s.setChannel .sc0 ⟨state, queue, some 10000, 0, 1, none⟩

/-- The slot of a READ of bytes 0 to 7 of page 0, the first four of them staged. -/
def readSlot (phase : SlotPhase) (number : Option (BitVec 8)) : Slot :=
  ⟨1, 1, .read ⟨.sc0, 0, 0, 8, [some 10, some 11, some 12, some 13, none, none, none, none], number⟩, phase⟩

/-- SC0 at work on that READ's FETCH. -/
def fetching : State := working (part.setSlot 0 (some (readSlot .fetching (some 1)))) .busy [⟨.fetch 0 0 8 0, 1⟩]

/-- SC0 at work on the PROGRAM of buffer 0, on which the SYNC slot 0 waits. -/
def programming : State :=
  working ((holding .programming 1).setSlot 0 (some ⟨1, 1, .sync 1, .fetching⟩)) .busy [⟨.program 0 0, 1⟩]

/-- SC0 at work on a CLEAR of sector 1. -/
def clearing : State := working part .busy [⟨.clear 1 2, 1⟩]

/-- SC0 OFFLINE. -/
def offline (s : State) : State := s.setChannel .sc0 { Channel.reset with state := .offline }

/-- Requester q holds the grant of window 1. -/
def granted (s : State) (q : ReqId) : State := s.setGrant 1 (some ⟨q, 50000⟩)

/-- The state a command leads to. -/
def after (c : Instr) (s : State) : State :=
  match exec c s with
  | .next t => t
  | _ => s

/-- What the last frame queued on LP0 carries. -/
def answer (c : Instr) (s : State) (f : List Byte) : Option Body := ((after c (offering s f)).lp0.outbound.getLast?).map OutFrame.body

/-! ### One small step for each command -/

theorem test_frameArrival : (after (.frameArrival .lp0 (readFrame 1 0 4)) part).lp0.inbound = [readFrame 1 0 4] := by
  decide +kernel
theorem test_linkUp : (after (.linkUp .lp0) { part with lp0 := Port.reset }).lp0.up = true := by decide +kernel
theorem test_linkDown : (after (.linkDown .lp0) (offering part (readFrame 1 0 4))).lp0.inbound = [] := by decide +kernel
theorem test_transmissionEnd :
    (after (.transmissionEnd .lp0) { part with lp0 := { part.lp0 with transmitter := .sendingCredit 1 } }).lp0.transmitter
      = .idle := by decide +kernel
theorem test_unknownFrameKind : answer (.unknownFrameKind .lp0) part (frame 9 1 0 0 0 0 []) = some (.refuse .badFrame) := by
  decide +kernel
theorem test_read : answer (.read .lp0) part (readFrame 1 0 4) = some (.defer 1) := by decide +kernel
theorem test_read_staged :
    answer (.read .lp0) (holding (.opened 5 5) 0) (readFrame 1 1 3) = some (.data [11, 12, 13]) := by decide +kernel
theorem test_write : answer (.write .lp0) part (writeFrame 1 254 [1, 2, 3]) = some (.ack 2) := by decide +kernel
theorem test_clear : answer (.clear .lp0) part (clearFrame 1 0) = some (.ack 16) := by decide +kernel
theorem test_collect :
    answer (.collect .lp0) (part.setSlot 0 (some (readSlot (.ready [1, 2] 9) none))) (collectFrame 1 1)
      = some (.data [1, 2]) := by decide +kernel
theorem test_grant : answer (.grant .lp0) part (grantFrame 1 (32 * 256)) = some (.ack 1) := by decide +kernel
theorem test_release : answer (.release .lp0) (granted part 1) (releaseFrame 1 (32 * 256)) = some (.ack 0) := by
  decide +kernel
theorem test_flush : answer (.flush .lp0) (holding (.opened 5 5) 0) (flushFrame 1 0) = some (.ack 1) := by decide +kernel
theorem test_flushWithWait : answer (.flushWithWait .lp0) (holding (.opened 5 5) 0) (flushFrame 1 1) = some (.defer 1) := by
  decide +kernel
theorem test_unknownMgmtOperation :
    answer (.unknownMgmtOperation .lp0) part (mgmtFrame 1 0xFF []) = some (.mgmtReply 0xFF .badOperand []) := by
  decide +kernel
theorem test_windowLoad :
    (answer (.windowLoad .lp0) part (mgmtFrame 1 0x10 ((entryAt 500 .sc1 ⟨true, false, false⟩ false).operand 23)))
      = some (.mgmtReply 0x10 .ok [])
    ∧ (after (.windowLoad .lp0) (offering part
        (mgmtFrame 1 0x10 ((entryAt 500 .sc1 ⟨true, false, false⟩ false).operand 23)))).window 23
      = entryAt 500 .sc1 ⟨true, false, false⟩ false := by decide +kernel
theorem test_windowClear : answer (.windowClear .lp0) part (mgmtFrame 1 0x11 [0]) = some (.mgmtReply 0x11 .ok []) := by
  decide +kernel
theorem test_windowRead :
    answer (.windowRead .lp0) part (mgmtFrame 1 0x12 [1])
      = some (.mgmtReply 0x12 .ok [1, 1, 0, 0, 0, 0xE, 0, 0, 32, 0, 0, 32, 0, 0, 0, 7, 1]) := by decide +kernel
theorem test_grantRevoke :
    answer (.grantRevoke .lp0) (granted part 3) (mgmtFrame 1 0x18 [1]) = some (.mgmtReply 0x18 .ok [3, 0]) := by
  decide +kernel
theorem test_bufferRead :
    answer (.bufferRead .lp0) (holding (.held .programFailed) 3) (mgmtFrame 1 0x20 [0])
      = some (.mgmtReply 0x20 .ok [0, 5, 0, 0, 0, 0, 4, 0, 0, 0, 2, 3, 3]) := by decide +kernel
theorem test_bufferRetry :
    answer (.bufferRetry .lp0) (holding (.held .programFailed) 3) (mgmtFrame 1 0x21 [0])
      = some (.mgmtReply 0x21 .ok [4]) := by decide +kernel
theorem test_bufferDiscard :
    answer (.bufferDiscard .lp0) (holding (.held .programFailed) 3) (mgmtFrame 1 0x22 [0])
      = some (.mgmtReply 0x22 .ok []) := by decide +kernel
theorem test_sealAll :
    answer (.sealAll .lp0) (holding (.opened 5 5) 0) (mgmtFrame 1 0x23 []) = some (.mgmtReply 0x23 .ok [1]) := by
  decide +kernel
theorem test_channelOffline :
    answer (.channelOffline .lp0) clearing (mgmtFrame 1 0x30 [0]) = some (.mgmtReply 0x30 .ok [2]) := by decide +kernel
theorem test_channelOnline :
    answer (.channelOnline .lp0) (offline part) (mgmtFrame 1 0x31 [0]) = some (.mgmtReply 0x31 .ok []) := by
  decide +kernel
theorem test_eventsRead :
    answer (.eventsRead .lp0) { part with log := [⟨0, 5, .linkUp .lp1⟩], sequence := 1 } (mgmtFrame 1 0x40 [4])
      = some (.mgmtReply 0x40 .ok [0, 0, 0, 1, 0, 0, 1, 1, 0, 0, 0, 5, 1, 0, 0, 0, 0, 0, 0, 0]) := by decide +kernel
theorem test_countersRead :
    answer (.countersRead .lp0) part (mgmtFrame 1 0x41 [2]) = some (.mgmtReply 0x41 .ok (List.replicate 32 0)) := by
  decide +kernel
theorem test_countersClear : answer (.countersClear .lp0) part (mgmtFrame 1 0x42 []) = some (.mgmtReply 0x42 .ok []) := by
  decide +kernel
theorem test_paramSet :
    answer (.paramSet .lp0) part (mgmtFrame 1 0x50 [9, 31, 1]) = some (.mgmtReply 0x50 .ok [0, 0])
    ∧ (after (.paramSet .lp0) (offering part (mgmtFrame 1 0x50 [9, 31, 1]))).params.noticeTarget = some (31, .lp1) := by
  decide +kernel
theorem test_paramRead :
    answer (.paramRead .lp0) part (mgmtFrame 1 0x51 [])
      = some (.mgmtReply 0x51 .ok [0x13, 0x88, 7, 0xD0, 0, 20, 0, 50, 0, 10, 0, 2, 0, 4, 0, 2, 0, 0]) := by decide +kernel
theorem test_mgmtSetWrite :
    answer (.mgmtSetWrite .lp0) part (mgmtFrame 1 0x52 [0, 0, 0, 4]) = some (.mgmtReply 0x52 .ok [0, 0, 0, 2]) := by
  decide +kernel
theorem test_statusRead :
    answer (.statusRead .lp0) programming (mgmtFrame 1 0x53 [])
      = some (.mgmtReply 0x53 .ok
          [0, 1, 1, 1, 0, 1, 0, 11, 0, 0, 0, 1, 0, 7, 1, 0, 0, 0, 0, 0, 0, 0, 0, 0, 0]) := by decide +kernel
theorem test_restart :
    answer (.restart .lp0) clearing (mgmtFrame 1 0x5F []) = some (.mgmtReply 0x5F .ok [1])
    ∧ answer (.restart .lp0) part (mgmtFrame 1 0x5F []) = some (.mgmtReply 0x5F .ok [0]) := by decide +kernel
theorem test_storeCompletion :
    (after (.storeCompletion .sc0 1 .ok [1, 2, 3, 4, 5, 6, 7, 8]) fetching).slot 0
      = some (readSlot (.ready [10, 11, 12, 13, 5, 6, 7, 8] 5000) (some 1)) := by decide +kernel
theorem test_operationTimerExpiry :
    (after (.operationTimerExpiry .sc0) clearing).sc0 = ⟨.busy, [⟨.clear 1 2, 2⟩], some 10000, 1, 2, some ⟨2, .clear 1⟩⟩ := by
  decide +kernel
theorem test_idleTimerExpiry :
    (after (.idleTimerExpiry 0) (holding (.opened 5 9) 0)).buffer 0 = some (staged .programming 1) := by decide +kernel
theorem test_openLimitExpiry :
    (after (.openLimitExpiry 0) (offline (holding (.opened 5 9) 0))).buffer 0 = some (staged (.held .channelOffline) 0) := by
  decide +kernel
theorem test_holdTimerExpiry :
    (after (.holdTimerExpiry 0) (part.setSlot 0 (some (readSlot (.failed .storeFailed 9) none)))).log
      = [⟨0, 9, .readAbandoned 1 1 0⟩] := by decide +kernel
theorem test_inactivityTimerExpiry :
    (after (.inactivityTimerExpiry 1) (granted part 3)).log = [⟨0, 50000, .grantExpired 3 1⟩] := by decide +kernel
theorem test_pinReset : after .pinReset fetching = State.reset := by decide +kernel
theorem test_resetDeassertion :
    (after (.resetDeassertion 0) State.reset).managers = 0x80000000
    ∧ (after (.resetDeassertion 1) State.reset).managers = 2 := by decide +kernel

/-! ### States and operands that meet the hypotheses of the obligations, clause by clause -/

theorem everySome {α : Type} {P : α → Prop} [DecidablePred P] {o : Option α} (h : o.all (fun x => decide (P x)) = true) :
    ∀ x, o = some x → P x := by
  rintro x rfl
  simpa using h

/-- The port of `part` with n frames waiting. -/
def crowded (n : Nat) : State := { part with lp0 := { part.lp0 with inbound := List.replicate n (readFrame 1 0 4) } }

def sending (transmitter : Transmitter) (outbound : List OutFrame) (owed : Nat) : State :=
  { part with lp0 := { part.lp0 with transmitter := transmitter, outbound := outbound, owed := owed } }

def outFrame : OutFrame := ⟨1, 7, 1, .ack 0⟩
def waitingFrame : OutFrame := ⟨1, 8, 0, .ack 0⟩

theorem witness_StepRunsTheFrontCommand : { part with pending := [Instr.pinReset] }.pending = .pinReset :: [] := rfl

theorem witness_IdleStepPassesOneMicrosecond :
    (State.reset.pending = [] ∧ State.reset.resetAsserted = true) ∧ part.pending = [] ∧ part.resetAsserted = false := by
  decide +kernel

theorem witness_PinResetLeavesTheResetValues :
    State.reset.resetAsserted = true ∧ Instr.linkUp .lp0 ≠ .pinReset ∧ ∀ m, Instr.linkUp .lp0 ≠ .resetDeassertion m :=
  ⟨rfl, nofun, nofun⟩

theorem witness_DeassertionSamplesTheStraps : State.reset.resetAsserted = true := rfl

theorem witness_ArrivalIsCheckedInOrder :
    let intact := fun (f : List Byte) => 20 ≤ f.length ∧ f.length ≤ 84 ∧ f = withTrailer (f.take (f.length - 4))
    let room := fun (s : State) => s.lp0.inbound.length + s.lp0.owed
    (∀ n ∈ [7, 8], (crowded n).resetAsserted = false ∧ ((crowded n).port .lp0).up = true ∧ ((crowded n).port .lp0).lawful)
    ∧ room (crowded 8) = 8 ∧ room (crowded 7) < 8
    ∧ ¬ intact (List.replicate 19 0) ∧ ¬ intact (List.replicate 85 0) ∧ ¬ intact (List.replicate 20 0)
    ∧ (intact (withTrailer (List.replicate 16 1)) ∧ frameDest (withTrailer (List.replicate 16 1)) ≠ 0)
    ∧ (intact (readFrame 1 0 4) ∧ frameDest (readFrame 1 0 4) = 0)
    ∧ intact (writeFrame 1 0 (List.replicate 64 1)) ∧ frameDest (writeFrame 1 0 (List.replicate 64 1)) = 0 := by
  decide +kernel

theorem witness_LinkReportsMoveThePort :
    part.resetAsserted = false ∧ part.noticeWaits = true ∧ (part.port .lp0).up = true
    ∧ ({ part with lp0 := Port.reset }.port .lp0).up = false ∧ { part with lp0 := Port.reset }.noticeWaits = true := by
  decide +kernel

theorem witness_TransmissionEndStartsTheNextFrame :
    let head := fun (s : State) (rest : List OutFrame) => s.resetAsserted = false ∧ (s.port .lp0).up = true
      ∧ (s.port .lp0).transmitter = .sendingHead ∧ (s.port .lp0).outbound.tail = rest
    head (sending .sendingHead [outFrame, waitingFrame] 8) [waitingFrame]
    ∧ (head (sending .sendingHead [outFrame] 1) [] ∧ 1 ≤ ((sending .sendingHead [outFrame] 1).port .lp0).owed)
    ∧ (head (sending .sendingHead [outFrame] 0) [] ∧ ((sending .sendingHead [outFrame] 0).port .lp0).owed = 0)
    ∧ ((sending (.sendingCredit 8) [waitingFrame] 0).port .lp0).transmitter = .sendingCredit 8 := by decide +kernel

theorem witness_TakingMovesTheFrameAndPlacesTheResponse :
    let idle := offering part (clearFrame 1 0)
    let busy := offering (sending .sendingHead (outFrame :: List.replicate 6 waitingFrame) 0) (clearFrame 1 0)
    (idle.offers .lp0 (.clear .lp0) (clearFrame 1 0) ∧ (idle.port .lp0).lawful ∧ (idle.port .lp0).transmitter = .idle)
    ∧ busy.offers .lp0 (.clear .lp0) (clearFrame 1 0) ∧ (busy.port .lp0).lawful ∧ (busy.port .lp0).transmitter ≠ .idle := by
  decide +kernel

theorem witness_EveryTakenFrameGetsOneResponse :
    (offering part (mgmtFrame 2 0x53 [])).offers .lp0 (.statusRead .lp0) (mgmtFrame 2 0x53 [])
    ∧ ((offering part (mgmtFrame 2 0x53 [])).port .lp0).lawful := by decide +kernel

/-- `s` with a notice in this state for requester 31 on LP0. -/
def noticing (s : State) (notice : NoticeState) : State :=
  { s with params := { s.params with noticeTarget := some (31, .lp0) }, log := [⟨65535, 5, .linkUp .lp1⟩], notice := notice }

theorem witness_PendingNoticeIsPlaced :
    let full := sending .sendingHead (outFrame :: List.replicate 7 waitingFrame) 0
    (noticing part .pending).params.noticeTarget = some (31, .lp0)
    ∧ (noticing part .pending).log.getLast? = some ⟨65535, 5, .linkUp .lp1⟩
    ∧ ((noticing part .pending).notice = .pending ∧ ((noticing part .pending).port .lp0).up = true
      ∧ ((noticing part .pending).port .lp0).outbound.length + ((noticing part .pending).port .lp0).reserved < 8)
    ∧ (noticing part .sent).notice ≠ .pending
    ∧ ((noticing { part with lp0 := Port.reset } .pending).port .lp0).up = false
    ∧ 8 ≤ ((noticing full .pending).port .lp0).outbound.length + ((noticing full .pending).port .lp0).reserved := by
  decide +kernel

theorem witness_IllFormedFrameIsRefused :
    ([readFrame 1 0 1, readFrame 31 0 64, writeFrame 1 0 [0], writeFrame 1 0 (List.replicate 64 0), clearFrame 1 0,
        grantFrame 1 0, releaseFrame 1 0, collectFrame 1 255, flushFrame 1 0, flushFrame 1 1, mgmtFrame 1 0 [],
        mgmtFrame 1 0 (List.replicate 40 0)].all fun f => decide (20 ≤ f.length) && frameWellFormed f) = true
    ∧ ([readFrame 0 0 1, readFrame 32 0 1, readFrame 1 0 0, readFrame 1 0 65, flushFrame 1 2, frame 4 1 0 0 1 0 [],
        frame 8 1 0 0 0 0 [], mgmtFrame 1 0 (List.replicate 41 0), frame 1 1 1 4 0 0 [], frame 1 1 0 4 0 1 [],
        frame 9 1 0 0 0 0 []].all fun f => decide (20 ≤ f.length) && !frameWellFormed f) = true
    ∧ (offering part (readFrame 0 0 1)).offers .lp0 (.read .lp0) (readFrame 0 0 1)
    ∧ (offering part (frame 0 1 0 0 0 0 [])).offers .lp0 (.unknownFrameKind .lp0) (frame 0 1 0 0 0 0 []) := by
  decide +kernel

/-- `s` while a restart that requester 1 asked for is pending. -/
def restarting (s : State) : State := { s with restart := some 1 }

theorem witness_DataRequestsAreNotReadyDuringRestart :
    ∀ x ∈ [(Instr.read .lp0, readFrame 1 0 4), (.write .lp0, writeFrame 1 0 [1]), (.clear .lp0, clearFrame 1 0),
      (.collect .lp0, collectFrame 1 1), (.grant .lp0, grantFrame 1 0), (.release .lp0, releaseFrame 1 0),
      (.flush .lp0, flushFrame 1 0), (.flushWithWait .lp0, flushFrame 1 1)],
      (offering (restarting part) x.2).offers .lp0 x.1 x.2 ∧ frameWellFormed x.2 = true
      ∧ (offering (restarting part) x.2).restart ≠ none := by decide +kernel

theorem witness_DecodeFindsTheOneWindow :
    part.windowsLawful
    ∧ (part.matchWindow 1 0 = some 0 ∧ part.matchWindow 1 31 = some 0 ∧ part.matchWindow 1 32 = some 1)
    ∧ part.matchWindow 1 160 = none ∧ part.matchWindow 4 0 = none := by decide +kernel

/-- `part` with a window of 17 store pages at link page 160, so that sector 1 is not whole in it. -/
def shortWindow : State := part.setWindow 5 ⟨true, 2, 160, 17, .sc0, 0, ⟨true, true, true⟩, true⟩

theorem witness_FirstFailingCheckNamesTheRefusal :
    let s := offering shortWindow
    let at' := fun (page : Nat) => page * 256
    let passes := fun (t : State) (command : Instr) (f : List Byte) (w : WindowId) => t.resolves .lp0 command f 1 w
    (∀ x ∈ [(Instr.read .lp0, readFrame 1 (at' 200) 4), (.write .lp0, writeFrame 1 (at' 200) [1]),
        (.clear .lp0, clearFrame 1 (at' 200)), (.grant .lp0, grantFrame 1 (at' 200)), (.release .lp0, releaseFrame 1 (at' 200))],
      (s x.2).admits .lp0 x.1 x.2 1 ∧ (s x.2).matchWindow 1 (frameLinkPage x.2) = none)
    ∧ (passes (s (readFrame 1 (at' 128) 4)) (.read .lp0) (readFrame 1 (at' 128) 4) 4
      ∧ (shortWindow.window 4).rights.read = false)
    ∧ (passes (s (readFrame 1 253 4)) (.read .lp0) (readFrame 1 253 4) 0 ∧ (shortWindow.window 0).rights.read = true
      ∧ 256 < frameOffset (readFrame 1 253 4) + frameLength (readFrame 1 253 4))
    ∧ (passes (offering (offline part) (readFrame 1 252 4)) (.read .lp0) (readFrame 1 252 4) 0
      ∧ frameOffset (readFrame 1 252 4) + frameLength (readFrame 1 252 4) ≤ 256
      ∧ ((offline part).channel .sc0).state.online = false)
    ∧ (passes (s (writeFrame 1 (at' 96) [1])) (.write .lp0) (writeFrame 1 (at' 96) [1]) 3
      ∧ (shortWindow.window 3).rights.write = false)
    ∧ (passes (s (writeFrame 1 (at' 32) [1])) (.write .lp0) (writeFrame 1 (at' 32) [1]) 1
      ∧ (shortWindow.window 1).rights.write = true ∧ ¬ shortWindow.mayChange 1 1)
    ∧ (passes (offering (offline part) (writeFrame 1 0 [1])) (.write .lp0) (writeFrame 1 0 [1]) 0 ∧ part.mayChange 1 0)
    ∧ (passes (s (clearFrame 1 (at' 96))) (.clear .lp0) (clearFrame 1 (at' 96)) 3
      ∧ (shortWindow.window 3).rights.clear = false)
    ∧ (passes (s (clearFrame 1 (at' 176))) (.clear .lp0) (clearFrame 1 (at' 176)) 5
      ∧ (shortWindow.window 5).rights.clear = true
      ∧ ¬ (16 + 15 < (shortWindow.window 5).storeBase.toNat + (shortWindow.window 5).pageCount))
    ∧ (passes (s (clearFrame 1 (at' 175))) (.clear .lp0) (clearFrame 1 (at' 175)) 5
      ∧ (shortWindow.window 5).storeBase.toNat ≤ 0
      ∧ 0 + 15 < (shortWindow.window 5).storeBase.toNat + (shortWindow.window 5).pageCount ∧ ¬ shortWindow.mayChange 1 5)
    ∧ (passes (offering (offline part) (clearFrame 1 0)) (.clear .lp0) (clearFrame 1 0) 0
      ∧ (part.window 0).rights.clear = true)
    ∧ (passes (s (grantFrame 1 (at' 96))) (.grant .lp0) (grantFrame 1 (at' 96)) 3) := by decide +kernel

theorem witness_ReadOfStagedBytesAnswersData :
    let f := readFrame 1 1 3
    let s := offering (holding (.opened 5 5) 0) f
    s.resolves .lp0 (.read .lp0) f 1 0 ∧ (s.window 0).rights.read = true ∧ frameOffset f + frameLength f ≤ 256
    ∧ (s.channel (s.channelOf 0)).state.online = true ∧ [11, 12, 13#8].length = frameLength f
    ∧ ∀ i, i < frameLength f → s.overlayAt (s.channelOf 0) (s.pageOf 0 f) (frameOffset f + i) = [11, 12, 13#8][i]? := by
  decide +kernel

theorem witness_ReadOfUnstagedBytesIsDeferred :
    let f := readFrame 1 1 4
    ∀ s ∈ [offering (holding (.opened 5 5) 0) f, offering clearing f],
      s.resolves .lp0 (.read .lp0) f 1 0 ∧ (s.window 0).rights.read = true ∧ frameOffset f + frameLength f ≤ 256
      ∧ (s.channel (s.channelOf 0)).state.online = true ∧ (s.channel (s.channelOf 0)).lawful
      ∧ (3 < frameLength f ∧ s.overlayAt (s.channelOf 0) (s.pageOf 0 f) (frameOffset f + 3) = none)
      ∧ s.ownedSlots 1 < s.params.slotsPerReq ∧ s.slot 0 = none ∧ (∀ j : SlotId, j < 0 → s.slot j ≠ none)
      ∧ (s.channel (s.channelOf 0)).queue.length < 16 := by decide +kernel

theorem witness_IssuedTicketIsTheFirstNotHeld :
    let s := { part.setSlot 0 (some ⟨255, 1, .sync 1, .fetching⟩) with ticketCounter := 255 }
    s.ticketCounter ≠ 0 ∧ s.slot 1 = none ∧ s.issuedTicket = 1 := by decide +kernel

/-- Two buffers on one page: the older one PROGRAMMING with bytes 0 to 3, the newer OPEN with byte 3. -/
def layered : State :=
  { programming.setBuffer 1 (some ⟨.sc0, 0, 1, [(3, 99)], 2, 2, .opened 5 5, 0⟩) with openOrder := [0, 1], openCounter := 2 }

theorem witness_OverlayShowsTheNewestStagedByte :
    (layered.openOrder = [] ++ 0 :: [1] ∧ layered.buffer 0 = some (staged .programming 1)
      ∧ cellAt (staged .programming 1).staged 2 = some 12
      ∧ ∀ b' ∈ [(1 : BufferId)], ∀ x', layered.buffer b' = some x' → x'.channel = .sc0 → x'.page = 0 →
          cellAt x'.staged 2 = none)
    ∧ ∀ b ∈ layered.openOrder, ∀ x, layered.buffer b = some x → x.channel = .sc0 → x.page = 0 → cellAt x.staged 4 = none := by
  refine ⟨⟨rfl, by decide +kernel, by decide, ?_⟩, ?_⟩
  · intro b'; exact fun hb => everySome (by revert b'; decide +kernel)
  · intro b; exact fun hb => everySome (by revert b; decide +kernel)

theorem witness_WriteMergesIntoTheOpenBuffer :
    let f := writeFrame 1 250 [1, 2, 3, 4, 5, 6, 7]
    let s := offering (holding (.opened 5 5) 0) f
    (s.resolves .lp0 (.write .lp0) f 1 0 ∧ (s.window 0).rights.write = true ∧ s.mayChange 1 0
      ∧ (s.channel (s.channelOf 0)).state.online = true ∧ (0 : BufferId) ∈ s.openOrder
      ∧ s.buffer 0 = some (staged (.opened 5 5) 0) ∧ s.channelOf 0 = .sc0 ∧ s.pageOf 0 f = 0)
    ∧ ∀ b' x', s.buffer b' = some x' → x'.channel = s.channelOf 0 → x'.page = s.pageOf 0 f → x'.isOpen = true →
        b' = 0 := by
  refine ⟨by decide +kernel, ?_⟩
  intro b'
  exact everySome (by revert b'; decide +kernel)

theorem witness_WriteOpensTheLowestFreeBuffer :
    let f := writeFrame 1 8192 [1]
    let s := offering (granted (holding .sealed 0) 1) f
    s.resolves .lp0 (.write .lp0) f 1 1 ∧ (s.window 1).rights.write = true ∧ s.mayChange 1 1
    ∧ (s.channel (s.channelOf 1)).state.online = true
    ∧ (s.liveOn (s.channelOf 1) (s.pageOf 1 f)).length = 1
    ∧ (∀ b' ∈ s.liveOn (s.channelOf 1) (s.pageOf 1 f), s.bufferHas b' Buffer.isOpen = false)
    ∧ s.buffer 1 = none ∧ ∀ b' : BufferId, b' < 1 → s.buffer b' ≠ none := by decide +kernel

/-- Two buffers on page 0 that are not OPEN. -/
def pageFull : State :=
  { layered.setBuffer 1 (some ⟨.sc0, 0, 1, [(3, 99)], 2, 0, .sealed, 0⟩) with sealList := [1] }

/-- Every buffer live, on pages 4 to 15, in this phase. -/
def poolFull (phase : BufferPhase) : State :=
  { part with
    buffers := Vector.ofFn fun b => some ⟨.sc0, BitVec.ofNat 16 (4 + b), BitVec.ofNat 32 b, [(0, 1)], 2, 0, phase, 0⟩
    openOrder := List.finRange 12
    sealList := if phase = .sealed then List.finRange 12 else [] }

theorem witness_BusyRefusals :
    let f := writeFrame 1 0 [1]
    let r := readFrame 1 0 4
    let live := fun (s : State) => s.liveOn (s.channelOf 0) (s.pageOf 0 f)
    (∀ s ∈ [offering pageFull f, offering (poolFull (.opened 5 5)) f, offering (poolFull .sealed) f],
      (s.channel (s.channelOf 0)).state.online = true ∧ s.resolves .lp0 (.write .lp0) f 1 0
      ∧ (s.window 0).rights.write = true ∧ s.mayChange 1 0 ∧ ∀ b ∈ live s, s.bufferHas b Buffer.isOpen = false)
    ∧ 2 ≤ (live (offering pageFull f)).length
    ∧ (∀ phase ∈ [BufferPhase.opened 5 5, .sealed],
        (live (offering (poolFull phase) f)).length < 2 ∧ ∀ b, (offering (poolFull phase) f).buffer b ≠ none)
    ∧ (poolFull (.opened 5 5)).openOrder.find? (fun b => (poolFull (.opened 5 5)).bufferHas b Buffer.isOpen) = some 0
    ∧ (poolFull .sealed).openOrder.find? (fun b => (poolFull .sealed).bufferHas b Buffer.isOpen) = none
    ∧ (∀ s ∈ [{ part with slots := Vector.replicate 8 (some ⟨1, 1, .sync 1, .fetching⟩) },
          { part with slots := Vector.replicate 8 (some ⟨1, 2, .sync 1, .fetching⟩) },
          working part .busy (⟨.clear 1 2, 1⟩ :: List.replicate 15 ⟨.clear 1 2, 0⟩)],
        (offering s r).resolves .lp0 (.read .lp0) r 1 0 ∧ (s.window 0).rights.read = true
        ∧ frameOffset r + frameLength r ≤ 256 ∧ s.overlayAt (s.channelOf 0) (s.pageOf 0 r) (frameOffset r + 0) = none
        ∧ (s.params.slotsPerReq ≤ s.ownedSlots 1 ∨ (∀ i, s.slot i ≠ none)
          ∨ 16 ≤ (s.channel (s.channelOf 0)).queue.length)) := by decide +kernel

theorem witness_ClearJoinsTheQueueOfAFreeSector :
    let f := clearFrame 1 (15 * 256)
    let full := working part .busy (⟨.clear 1 2, 1⟩ :: List.replicate 15 ⟨.clear 1 2, 0⟩)
    (∀ s ∈ [offering (holding .sealed 0) f, offering full f, offering part f],
      s.resolves .lp0 (.clear .lp0) f 1 0 ∧ (s.window 0).rights.clear = true
      ∧ (s.window 0).storeBase.toNat ≤ (s.pageOf 0 f).toNat / 16 * 16
      ∧ (s.pageOf 0 f).toNat / 16 * 16 + 15 < (s.window 0).storeBase.toNat + (s.window 0).pageCount
      ∧ s.mayChange 1 0 ∧ (s.channel (s.channelOf 0)).state.online = true ∧ (s.channel (s.channelOf 0)).lawful)
    ∧ ((0 : BufferId) ∈ (holding .sealed 0).openOrder ∧ (holding .sealed 0).buffer 0 = some (staged .sealed 0)
      ∧ (staged .sealed 0).page.toNat / 16 = ((offering part f).pageOf 0 f).toNat / 16)
    ∧ (full.openOrder = [] ∧ (full.channel .sc0).queue.length = 16)
    ∧ part.openOrder = [] ∧ (part.channel .sc0).queue.length < 16 := by decide +kernel

theorem witness_CollectAnswersFromTheSlot :
    let f := collectFrame 1 1
    let zero := collectFrame 1 0
    let s := fun (phase : SlotPhase) => offering (part.setSlot 0 (some (readSlot phase none))) f
    let sync := offering (part.setSlot 0 (some ⟨1, 1, .sync 0, .ready [] 9⟩)) f
    let other := offering (part.setSlot 0 (some ⟨1, 2, .sync 1, .fetching⟩)) f
    (∀ t ∈ [offering part f, s .fetching, s (.ready [1] 9), sync, s (.failed .storeFailed 9), s (.failed .channelOffline 9),
        other], t.admits .lp0 (.collect .lp0) f 1 ∧ t.ticketsLawful)
    ∧ ((offering part zero).admits .lp0 (.collect .lp0) zero 1 ∧ frameTicket zero = 0)
    ∧ (∀ i, (offering part f).ticketOf i ≠ some (frameTicket f))
    ∧ (readSlot .fetching none).ticket = frameTicket f ∧ (readSlot .fetching none).requester = 1
    ∧ (∃ x, other.slot 0 = some x ∧ x.ticket = frameTicket f ∧ x.requester ≠ 1) := by
  refine ⟨by decide +kernel, by decide +kernel, by decide +kernel, by decide +kernel, by decide +kernel, ?_⟩
  exact ⟨⟨1, 2, .sync 1, .fetching⟩, by decide +kernel⟩

theorem witness_GrantAndReleaseAnswerByTheRecord :
    let g := grantFrame 1 8192
    let r := releaseFrame 1 8192
    ((offering part (grantFrame 1 0)).resolves .lp0 (.grant .lp0) (grantFrame 1 0) 1 0
      ∧ (part.window 0).grantRequired = false)
    ∧ (∀ s ∈ [part, granted part 1, granted part 3], (offering s g).resolves .lp0 (.grant .lp0) g 1 1
        ∧ (s.window 1).rights.write = true ∧ (s.window 1).grantRequired = true)
    ∧ (part.holderOf 1 = none ∧ (granted part 1).holderOf 1 = some 1 ∧ (granted part 3).holderOf 1 = some 3)
    ∧ ∀ s ∈ [part, granted part 1, granted part 3], (offering s r).resolves .lp0 (.release .lp0) r 1 1 := by decide +kernel

/-- Buffer 0 OPEN with bytes under the grant of window 1, buffer 1 OPEN on page 1 under no grant, requester 1 holding the grant. -/
def twoOpen : State :=
  granted { part with
    buffers := (part.buffers.set 0 (some { staged (.opened 5 5) 0 with grantWindows := 2 })).set 1
      (some { staged (.opened 5 5) 0 with page := 1, stamp := 1 })
    openOrder := [0, 1]
    openCounter := 2 } 1

theorem witness_GrantEndSealsItsBuffers :
    (∀ s ∈ [twoOpen, offline twoOpen], s.queuesLawful ∧ s.listsLawful ∧ s.channelsLawful
      ∧ s.buffer 0 = some { staged (.opened 5 5) 0 with grantWindows := 2 }
      ∧ s.buffer 1 = some { staged (.opened 5 5) 0 with page := 1, stamp := 1 } ∧ s.buffer 11 = none)
    ∧ (staged (.opened 5 5) 0).isOpen = true ∧ inSet (2 : BitVec 24) (1 : WindowId) = true
    ∧ inSet (staged (.opened 5 5) 0).grantWindows (1 : WindowId) = false
    ∧ (twoOpen.channel .sc0).state.online = true ∧ ((offline twoOpen).channel .sc0).state.online = false := by decide +kernel

theorem witness_FlushAndSealAllSealInOrder :
    let f := flushFrame 1 0
    let m := mgmtFrame 1 0x23 []
    (offering layered f).admits .lp0 (.flush .lp0) f 1
    ∧ [1] = layered.openOrder.filter (fun b => layered.bufferHas b fun x => x.isOpen && inSet x.writers (1 : ReqId).toNat)
    ∧ (offering layered m).obeys .lp0 (.sealAll .lp0) m [] ∧ layered.restart = none
    ∧ [1] = layered.openOrder.filter (fun b => layered.bufferHas b Buffer.isOpen) := by decide +kernel

theorem witness_FlushWithWaitTakesTheFirstCase :
    let f := flushFrame 1 1
    let crowdedTable := { layered with slots := Vector.replicate 8 (some ⟨1, 1, .sync 1, .fetching⟩) }
    let mine := fun (s : State) => s.openOrder.filter fun b => s.bufferHas b fun x => !x.isHeld && inSet x.writers 1
    let stuck := fun (s : State) => ∃ b x, b ∈ s.openOrder ∧ s.buffer b = some x ∧ inSet x.writers 1 = true
      ∧ (x.isHeld = true ∨ x.isOpen = true ∧ (s.channel x.channel).state.online = false)
    (∀ s ∈ [holding (.held .programFailed) 3, offline (holding (.opened 5 5) 0), part, crowdedTable, layered],
      (offering s f).admits .lp0 (.flushWithWait .lp0) f 1)
    ∧ stuck (holding (.held .programFailed) 3) ∧ stuck (offline (holding (.opened 5 5) 0))
    ∧ (¬ stuck part ∧ mine part = [])
    ∧ (¬ stuck crowdedTable ∧ mine crowdedTable ≠ [] ∧ crowdedTable.params.slotsPerReq ≤ crowdedTable.ownedSlots 1)
    ∧ ¬ stuck layered ∧ mine layered ≠ [] ∧ layered.ownedSlots 1 < layered.params.slotsPerReq ∧ layered.slot 1 = none
    ∧ ∀ j : SlotId, j < 1 → layered.slot j ≠ none := by
  have quiet : ∀ s : State, (∀ b : BufferId, (s.buffer b).all (fun x => decide (¬ (inSet x.writers 1 = true
      ∧ (x.isHeld = true ∨ x.isOpen = true ∧ (s.channel x.channel).state.online = false)))) = true) →
      ¬ ∃ b x, b ∈ s.openOrder ∧ s.buffer b = some x ∧ inSet x.writers 1 = true
        ∧ (x.isHeld = true ∨ x.isOpen = true ∧ (s.channel x.channel).state.online = false) := by
    rintro s h ⟨b, x, -, hx, rest⟩
    exact everySome (P := fun x => ¬ (inSet x.writers 1 = true
      ∧ (x.isHeld = true ∨ x.isOpen = true ∧ (s.channel x.channel).state.online = false))) (h b) x hx rest
  refine ⟨by decide +kernel, ⟨0, staged (.held .programFailed) 3, by decide +kernel⟩,
    ⟨0, staged (.opened 5 5) 0, by decide +kernel⟩, ⟨quiet _ (by decide +kernel), by decide +kernel⟩,
    ⟨quiet _ (by decide +kernel), by decide +kernel⟩, quiet _ (by decide +kernel), by decide +kernel⟩

theorem witness_FrameCodesAndLayouts :
    (∀ x ∈ [(1, readFrame 1 0 4), (2, writeFrame 1 0 [1]), (3, clearFrame 1 0), (4, collectFrame 1 1), (5, grantFrame 1 0),
      (6, releaseFrame 1 0), (7, flushFrame 1 1), (9, frame 9 1 0 0 0 0 []), (8, mgmtFrame 1 0x5F [])],
      (byteAt x.2 0).toNat = x.1)
    ∧ (framePayload (mgmtFrame 1 0x5F []) = 0x5F :: [] ∧ mgmtShape 0x54 = none)
    ∧ framePayload (frame 8 1 0 0 0 0 []) = [] ∧ 20 ≤ (readFrame 1 0 4).length
    ∧ part.lp0.transmitter = .idle
    ∧ ((sending .sendingHead [outFrame] 1).lp0.transmitter = .sendingHead
      ∧ (sending .sendingHead [outFrame] 1).lp0.outbound = outFrame :: [])
    ∧ (sending (.sendingCredit 8) [] 0).lp0.transmitter = .sendingCredit 8 := by decide +kernel

theorem witness_ManagementChecksAnswerInOrder :
    let ok := fun (s : State) (command : Instr) (f : List Byte) =>
      (offering s f).offers .lp0 command f ∧ frameWellFormed f = true ∧ byteAt f 0 = 8
    (ok part (.restart .lp0) (mgmtFrame 2 0x5F []) ∧ inSet part.managers (frameRequester (mgmtFrame 2 0x5F [])).toNat = false)
    ∧ (ok part (.unknownMgmtOperation .lp0) (mgmtFrame 1 0x60 []) ∧ mgmtShape 0x60 = none
      ∧ inSet part.managers (frameRequester (mgmtFrame 1 0x60 [])).toNat = true)
    ∧ (ok (restarting part) (.paramRead .lp0) (mgmtFrame 1 0x51 []) ∧ mgmtShape 0x51 = some (0, false))
    ∧ (ok part (.paramRead .lp0) (mgmtFrame 1 0x51 [0]) ∧ (frameOperand (mgmtFrame 1 0x51 [0])).length ≠ 0)
    ∧ (ok (restarting part) (.eventsRead .lp0) (mgmtFrame 1 0x40 []) ∧ mgmtShape 0x40 = some (1, true))
    ∧ ∀ x ∈ [(Instr.windowClear .lp0, mgmtFrame 1 0x11 [24], (24 : Byte)), (.windowRead .lp0, mgmtFrame 1 0x12 [255], 255),
        (.grantRevoke .lp0, mgmtFrame 1 0x18 [24], 24), (.bufferRead .lp0, mgmtFrame 1 0x20 [12], 12),
        (.bufferRetry .lp0, mgmtFrame 1 0x21 [12], 12), (.bufferDiscard .lp0, mgmtFrame 1 0x22 [12], 12),
        (.channelOffline .lp0, mgmtFrame 1 0x30 [2], 2), (.channelOnline .lp0, mgmtFrame 1 0x31 [2], 2),
        (.countersRead .lp0, mgmtFrame 1 0x41 [3], 3), (.eventsRead .lp0, mgmtFrame 1 0x40 [0], 0),
        (.eventsRead .lp0, mgmtFrame 1 0x40 [5], 5)], ok part x.1 x.2.1 ∧ frameOperand x.2.1 = [x.2.2] := by decide +kernel

theorem witness_ReadOperationsReplyWithTheState :
    programming.restart = none
    ∧ (∀ x ∈ [(Instr.statusRead .lp0, (0x53 : Byte), []), (.windowRead .lp0, 0x12, [BitVec.ofNat 8 (23 : WindowId)]),
        (.bufferRead .lp0, 0x20, [BitVec.ofNat 8 (0 : BufferId)]), (.bufferRead .lp0, 0x20, [BitVec.ofNat 8 (11 : BufferId)]),
        (.countersRead .lp0, 0x41, [0]), (.countersRead .lp0, 0x41, [1]), (.countersRead .lp0, 0x41, [2]),
        (.paramRead .lp0, 0x51, [])],
        (offering programming (mgmtFrame 1 x.2.1 x.2.2)).obeys .lp0 x.1 (mgmtFrame 1 x.2.1 x.2.2) x.2.2)
    ∧ programming.buffer 11 = none ∧ programming.buffer 0 = some (staged .programming 1) := by decide +kernel

/-- The largest entry: its link and store ranges end with the address spaces. -/
def topEntry : WindowEntry := ⟨true, 0xFFFFFFFE, 0xFF0000, 65536, .sc1, 0, ⟨false, false, true⟩, true⟩

theorem witness_WindowLoadReplacesTheEntry :
    let f := fun (w : WindowId) (e : WindowEntry) => mgmtFrame 1 0x10 (e.operand w)
    let clashing := entryAt 31 .sc1 ⟨true, false, false⟩ false
    (part.windowsLawful ∧ topEntry.valid = true ∧ topEntry.inRanges ∧ clashing.valid = true ∧ clashing.inRanges
      ∧ part.restart = none)
    ∧ ((offering part (f 23 clashing)).obeys .lp0 (.windowLoad .lp0) (f 23 clashing) (clashing.operand 23)
      ∧ (part.window 0).matches 1 31 = true ∧ clashing.matches 1 31 = true)
    ∧ (∀ s ∈ [part, granted part 3], s.windowsLawful
        ∧ (offering s (f 1 topEntry)).obeys .lp0 (.windowLoad .lp0) (f 1 topEntry) (topEntry.operand 1))
    ∧ (∀ v : WindowId, v ≠ 1 → (part.window v).valid = true → (part.window v).overlaps topEntry = false)
    ∧ part.holderOf 1 = none ∧ (granted part 3).holderOf 1 = some 3 := by decide +kernel

theorem witness_WindowLoadReplacesTheEntry_noClash :
    ¬ ∃ (v : WindowId) (q : ReqId) (page : Nat),
      v ≠ 1 ∧ (part.window v).matches q page = true ∧ topEntry.matches q page = true := by
  have low : ∀ v : WindowId, (part.window v).linkBase.toNat + (part.window v).pageCount ≤ 0xFF0000 := by decide +kernel
  rintro ⟨v, q, page, -, hv, ht⟩
  have hl := low v
  simp only [WindowEntry.matches, Bool.and_eq_true, decide_eq_true_eq] at hv ht
  have h1 : topEntry.linkBase.toNat = 0xFF0000 := by decide
  have h2 := hv.2
  have h3 := ht.1.2
  omega

theorem witness_WindowLoadOperandIsReadExactly :
    let bad : List Byte := 24 :: List.replicate 15 0
    (topEntry.valid = true ∧ topEntry.inRanges)
    ∧ ((topEntry.operand 23).length = 16 ∧ windowLoadOperand (topEntry.operand 23) = some (23, topEntry))
    ∧ (bad.length = 16 ∧ (offering part (mgmtFrame 1 0x10 bad)).obeys .lp0 (.windowLoad .lp0) (mgmtFrame 1 0x10 bad) bad
      ∧ part.restart = none)
    ∧ ∀ (w : WindowId) (e : WindowEntry), e.valid = true → e.inRanges → bad ≠ e.operand w := by
  refine ⟨by decide +kernel, by decide +kernel, by decide +kernel, ?_⟩
  intro w e _ _ h
  have index : ∀ w : WindowId, (24 : Byte) ≠ BitVec.ofNat 8 w := by decide
  have head := congrArg (fun l => l.getD 0 0) h
  exact index w (by simpa [WindowEntry.operand, bytesOf] using head)

theorem witness_ClearAndRevokeEndTheGrant :
    (∀ s ∈ [part, granted part 3],
      (offering s (mgmtFrame 1 0x11 [1])).obeys .lp0 (.windowClear .lp0) (mgmtFrame 1 0x11 [1]) [BitVec.ofNat 8 (1 : WindowId)]
      ∧ (offering s (mgmtFrame 1 0x18 [1])).obeys .lp0 (.grantRevoke .lp0) (mgmtFrame 1 0x18 [1])
          [BitVec.ofNat 8 (1 : WindowId)]
      ∧ s.restart = none ∧ (s.window 1).valid = true)
    ∧ (offering part (mgmtFrame 1 0x11 [23])).obeys .lp0 (.windowClear .lp0) (mgmtFrame 1 0x11 [23])
        [BitVec.ofNat 8 (23 : WindowId)]
    ∧ (part.window 23).valid = false ∧ part.holderOf 1 = none ∧ (granted part 3).holderOf 1 = some 3 := by decide +kernel

/-- Buffer 0 HELD, and a newer buffer 1 of its page in this phase. -/
def heldBelow (phase : BufferPhase) : State :=
  { part with
    buffers := (part.buffers.set 0 (some (staged (.held .programFailed) 3))).set 1 (some { staged phase 0 with stamp := 1 })
    openOrder := [0, 1]
    openCounter := 2
    sealList := if phase = .sealed then [1] else [] }

theorem witness_RetryReturnsTheBufferToTheSealList :
    let f := mgmtFrame 1 0x21 [0]
    (∀ s ∈ [part, offline (heldBelow .sealed), heldBelow .sealed, heldBelow (.opened 5 5)],
      s.restart = none ∧ (offering s f).obeys .lp0 (.bufferRetry .lp0) f [BitVec.ofNat 8 (0 : BufferId)])
    ∧ (part.buffer 0 = none ∧ ((offline (heldBelow .sealed)).channel .sc0).state.online = false)
    ∧ (∀ s ∈ [heldBelow .sealed, heldBelow (.opened 5 5)],
        s.listsLawful ∧ s.buffer 0 = some (staged (.held .programFailed) 3) ∧ (s.channel .sc0).state.online = true
        ∧ s.openOrder[0]? = some 0 ∧ s.openOrder[1]? = some 1)
    ∧ ((heldBelow .sealed).buffer 1 = some { staged .sealed 0 with stamp := 1 }
      ∧ (heldBelow .sealed).sealList = [] ++ 1 :: [])
    ∧ ∀ b : BufferId, (heldBelow (.opened 5 5)).bufferHas b Buffer.isSealed = false := by decide +kernel

theorem witness_DiscardFreesTheBuffer :
    let f := mgmtFrame 1 0x22 [0]
    (∀ s ∈ [part, heldBelow .sealed],
      s.restart = none ∧ (offering s f).obeys .lp0 (.bufferDiscard .lp0) f [BitVec.ofNat 8 (0 : BufferId)])
    ∧ part.bufferHas 0 Buffer.isHeld = false ∧ (heldBelow .sealed).buffer 0 = some (staged (.held .programFailed) 3) := by
  decide +kernel

theorem witness_ChannelsGoOfflineAndOnline :
    let down := mgmtFrame 1 0x30 [0]
    let up := mgmtFrame 1 0x31 [0]
    (∀ s ∈ [part, clearing, working part .quiescing [⟨.clear 1 2, 1⟩], offline (holding (.held .channelOffline) 0)],
      s.restart = none ∧ (offering s down).obeys .lp0 (.channelOffline .lp0) down [0]
      ∧ (offering s up).obeys .lp0 (.channelOnline .lp0) up [0])
    ∧ (part.channel .sc0).state = .idle ∧ (clearing.channel .sc0).state = .busy
    ∧ ((working part .quiescing [⟨.clear 1 2, 1⟩]).channel .sc0).state = .quiescing
    ∧ ((offline (holding (.held .channelOffline) 0)).channel .sc0).state = .offline := by decide +kernel

theorem witness_EventsReadRemovesTheOldest :
    let f := fun (n : Nat) => mgmtFrame 1 0x40 [BitVec.ofNat 8 n]
    let asked := fun (s : State) (n : Nat) => (offering s (f n)).obeys .lp0 (.eventsRead .lp0) (f n) [BitVec.ofNat 8 n]
    let five := { part with log := List.replicate 5 ⟨0, 5, .linkUp .lp1⟩ }
    (asked part 0 ∧ asked part 5 ∧ asked part 255) ∧ (asked part 1 ∧ asked part 4 ∧ part.log.length ≤ 1)
    ∧ asked (restarting five) 4 ∧ (restarting five).restart ≠ none ∧ 4 < (restarting five).log.length := by decide +kernel

theorem witness_CountersClearZeroesEveryCounter :
    let f := mgmtFrame 1 0x42 []
    ((offering part f).obeys .lp0 (.countersClear .lp0) f [] ∧ part.restart = none)
    ∧ (offering (restarting part) f).obeys .lp0 (.countersClear .lp0) f [] ∧ (restarting part).restart ≠ none := by
  decide +kernel

theorem witness_ParamSetWritesOneParameter :
    part.restart = none
    ∧ (∀ x ∈ [(0, 0), (1, 99), (1, 100), (2, 65535), (3, 256), (4, 255), (5, 1), (6, 7), (7, 15), (8, 8), (9, 0), (9, 255),
        (9, 31 * 256 + 1), (9, 258), (9, 32 * 256), (10, 1), (255, 0)],
        x.1 < 256 ∧ x.2 < 65536
        ∧ (offering part (mgmtFrame 1 0x50 (BitVec.ofNat 8 x.1 :: bytesOf 2 x.2))).obeys .lp0 (.paramSet .lp0)
            (mgmtFrame 1 0x50 (BitVec.ofNat 8 x.1 :: bytesOf 2 x.2)) (BitVec.ofNat 8 x.1 :: bytesOf 2 x.2))
    ∧ 31 * 256 + 1 = (31 : ReqId).toNat * 256 + (if PortId.lp1 = .lp0 then 0 else 1) := by decide +kernel

theorem witness_ManagementSetIsReplacedWhole :
    let asked := fun (m : ReqSet) => (offering part (mgmtFrame 1 0x52 (bytesOf 4 m.toNat))).obeys .lp0 (.mgmtSetWrite .lp0)
      (mgmtFrame 1 0x52 (bytesOf 4 m.toNat)) (bytesOf 4 m.toNat)
    (asked 0x80000001 ∧ asked 0 ∧ asked 0x80000000)
    ∧ part.restart = none ∧ inSet (0x80000001 : ReqSet) 0 = true ∧ inSet (0x80000000 : ReqSet) 0 = false := by decide +kernel

theorem witness_RestartDrainsAndCompletes :
    let f := mgmtFrame 1 0x5F []
    (∀ s ∈ [restarting clearing, clearing, offline part], (offering s f).obeys .lp0 (.restart .lp0) f [])
    ∧ ((restarting clearing).restart = some 1 ∧ clearing.restart = none ∧ clearing.sc0.state = .busy)
    ∧ (offline part).restart = none ∧ (offline part).sc0.state = .offline ∧ (offline part).sc1.state = .idle
    ∧ (restarting part).restart = some 1 ∧ part.sc0.state = .idle := by decide +kernel

theorem witness_SealOfAnOpenBuffer :
    (part.bufferHas 0 Buffer.isOpen = false ∧ (holding .sealed 0).bufferHas 0 Buffer.isOpen = false)
    ∧ (∀ s ∈ [holding (.opened 5 5) 0, offline (holding (.opened 5 5) 0)], s.buffer 0 = some (staged (.opened 5 5) 0))
    ∧ (staged (.opened 5 5) 0).isOpen = true
    ∧ ((holding (.opened 5 5) 0).channel .sc0).state.online = true
    ∧ ((offline (holding (.opened 5 5) 0)).channel .sc0).state.online = false := by decide +kernel

theorem witness_EnqueueRuleMovesTheFirstSealed :
    (part.listsLawful ∧ part.sealList = [])
    ∧ (∀ s ∈ [holding .sealed 0, restarting (holding .sealed 0)], s.listsLawful ∧ s.sealList = [] ++ 0 :: []
        ∧ s.buffer 0 = some (staged .sealed 0) ∧ s.openOrder = [] ++ 0 :: [])
    ∧ ((holding .sealed 0).restart = none ∧ ((holding .sealed 0).channel .sc0).state.online = true
      ∧ ((holding .sealed 0).channel .sc0).queue.length < 16)
    ∧ (restarting (holding .sealed 0)).restart ≠ none
    ∧ pageFull.listsLawful ∧ pageFull.sealList = [] ++ 1 :: [] ∧ pageFull.openOrder = [0] ++ 1 :: [] := by decide +kernel

theorem witness_ChannelStartsAndGoesOn :
    ((clearing.channel .sc0).queue = ⟨.clear 1 2, 1⟩ :: []
      ∧ (fetching.channel .sc0).queue = ⟨.fetch 0 0 8 0, 1⟩ :: [] ∧ fetching.slot 0 = some (readSlot .fetching (some 1))
      ∧ (programming.channel .sc0).queue = ⟨.program 0 0, 1⟩ :: []
      ∧ programming.buffer 0 = some (staged .programming 1))
    ∧ ((part.channel .sc0).state = .idle ∧ (clearing.channel .sc0).state ≠ .idle)
    ∧ ((clearing.channel .sc0).state = .busy ∧ ((clearing.tryEnqueue .sc0).channel .sc0).queue ≠ [])
    ∧ ((working part .busy []).channel .sc0).state = .busy
    ∧ (((working part .busy []).tryEnqueue .sc0).channel .sc0).queue = []
    ∧ ((working part .quiescing []).channel .sc0).state = .quiescing := by decide +kernel

theorem witness_OfflineEntryTellsEveryOwner :
    (Op.mk (.clear 1 2) 1).kind = .clear 1 2
    ∧ (fetching.params = part.params ∧ fetching.slot 0 = some (readSlot .fetching (some 1)))
    ∧ programming.params = part.params ∧ programming.buffer 0 = some (staged .programming 1) := by decide +kernel

theorem witness_OkCompletionServesTheOwner :
    let r : ReadWork := ⟨.sc0, 0, 0, 8, [some 10, some 11, some 12, some 13, none, none, none, none], some 1⟩
    (∀ s ∈ [fetching, programming, clearing], s.resetAsserted = false ∧ (s.channel .sc0).state.working = true
      ∧ (s.channel .sc0).number = 1)
    ∧ ((fetching.channel .sc0).queue = ⟨.fetch 0 0 (List.replicate 8 (0 : Byte)).length 0, 1⟩ :: []
      ∧ fetching.slot 0 = some ⟨1, 1, .read r, .fetching⟩ ∧ r.number = some 1
      ∧ r.overlay.length = (List.replicate 8 (0 : Byte)).length)
    ∧ ((programming.channel .sc0).queue = ⟨.program 0 0, 1⟩ :: [] ∧ programming.buffer 0 = some (staged .programming 1)
      ∧ cellsWf (staged .programming 1).staged)
    ∧ (clearing.channel .sc0).queue = ⟨.clear 1 2, 1⟩ :: [] ∧ cellsWf (clearing.store .sc0) := by decide +kernel

/-- `s` with the streak of SC0 at 3 and its head operation at 3 attempts. -/
def worn (s : State) : State :=
  s.setChannel .sc0 { s.sc0 with streak := 3, queue := s.sc0.queue.map fun op => { op with attempts := 3 } }

/-- `s` with the head operation of SC0 at 3 attempts alone. -/
def spent (s : State) : State := s.setChannel .sc0 { s.sc0 with queue := s.sc0.queue.map fun op => { op with attempts := 3 } }

theorem witness_FailedAttemptTakesTheFirstCase :
    (∀ s ∈ [clearing, spent clearing, worn clearing, spent fetching, worn fetching, spent programming, worn programming],
      s.resetAsserted = false ∧ (s.channel .sc0).state.working = true ∧ (s.channel .sc0).queue ≠ []
      ∧ (s.channel .sc0).timer = some 10000)
    ∧ ((clearing.channel .sc0).queue = ⟨.clear 1 2, 1⟩ :: [] ∧ clearing.restart = none
      ∧ (clearing.channel .sc0).streak + 1 < clearing.params.offlineStreak ∧ 1 ≤ clearing.params.retryLimit)
    ∧ (((spent clearing).channel .sc0).queue = ⟨.clear 1 2, 3⟩ :: []
      ∧ ((spent clearing).channel .sc0).streak + 1 < (spent clearing).params.offlineStreak
      ∧ (spent clearing).params.retryLimit < 3)
    ∧ (worn clearing).params.offlineStreak ≤ ((worn clearing).channel .sc0).streak + 1
    ∧ (((spent fetching).channel .sc0).queue = ⟨.fetch 0 0 8 0, 3⟩ :: []
      ∧ (spent fetching).slot 0 = some (readSlot .fetching (some 1)) ∧ ((spent fetching).channel .sc0).number = 1
      ∧ [0#8].length ≠ 8)
    ∧ ((spent programming).channel .sc0).queue = ⟨.program 0 0, 3⟩ :: []
    ∧ ((spent programming).elapse 10000).buffer 0 = some (staged .programming 1)
    ∧ (∀ pg o n i, OpKind.program 0 0 ≠ .fetch pg o n i) ∧ [0#8] ≠ [] := by
  refine ⟨by decide +kernel, by decide +kernel, by decide +kernel, by decide +kernel, by decide +kernel, by decide +kernel,
    by decide +kernel, ?_, by decide⟩
  exact nofun

theorem witness_LateCompletionIsDiscarded :
    (part.resetAsserted = false ∧ (part.channel .sc0).state = .idle)
    ∧ ((offline part).channel .sc0).state = .offline
    ∧ clearing.resetAsserted = false ∧ (255 : BitVec 8) ≠ (clearing.channel .sc0).number := by decide +kernel

theorem witness_ExpiriesActOnTheirRecord :
    (part.resetAsserted = false ∧ (holding (.opened 5 9) 0).buffer 0 = some (staged (.opened 5 9) 0))
    ∧ (∀ phase ∈ [SlotPhase.ready [1] 9, .failed .storeFailed 9],
        (part.setSlot 0 (some (readSlot phase none))).slot 0 = some (readSlot phase none))
    ∧ (granted part 3).grantOf 1 = some ⟨3, 50000⟩ := by decide +kernel

theorem witness_AppendOffersOneRecord :
    { part with log := List.replicate 15 ⟨0, 5, .linkUp .lp1⟩ }.log.length < 16
    ∧ 16 ≤ { part with log := List.replicate 16 ⟨0, 5, .linkUp .lp1⟩ }.log.length := by decide +kernel

/-- `layered` with the grant under which its OPEN buffer was written. -/
def underGrant : State := granted layered 1

/-- For the laws that every step keeps: they hold at reset, and in states with a buffer on its way, a waiting slot, an OPEN buffer, and frames to take. -/
theorem witness_laws :
    State.reset.lawful ∧ (offering underGrant (writeFrame 1 0 [1, 2])).lawful ∧ (offering part (clearFrame 1 0)).lawful
    ∧ (offering clearing (mgmtFrame 1 0x5F [])).lawful := by
  refine ⟨by decide +kernel, by decide +kernel, by decide +kernel, by decide +kernel⟩

/-- Such a state steps to a next state, which the step laws are about. -/
theorem witness_step : ∃ t, step { offering underGrant (writeFrame 1 0 [1, 2]) with pending := [.write .lp0] } = .next t := ⟨_, rfl⟩

theorem witness_AcceptedRequestsChangeTheirBytes :
    let f := writeFrame 1 0 [1, 2]
    let g := clearFrame 1 0
    let s := offering underGrant f
    let t := offering part g
    (s.lawful ∧ (s.channel (s.channelOf 0)).state.online = true ∧ s.mayChange 1 0
      ∧ s.resolves .lp0 (.write .lp0) f 1 0 ∧ (s.window 0).rights.write = true)
    ∧ t.lawful ∧ (t.channel (t.channelOf 0)).state.online = true ∧ t.mayChange 1 0 ∧ t.resolves .lp0 (.clear .lp0) g 1 0
    ∧ (t.window 0).rights.clear = true ∧ (t.window 0).coversSector (sectorOf (t.pageOf 0 g)) = true := by
  refine ⟨⟨by decide +kernel, by decide +kernel⟩, by decide +kernel, by decide +kernel⟩

/-- The OK completion of a PROGRAM in progress is among the commands of the coherence law. -/
theorem witness_OtherStepsChangeNoByte :
    let i := Instr.storeCompletion .sc0 1 .ok []
    underGrant.lawful ∧ underGrant.restart = none ∧ (∃ t, exec i underGrant = .next t)
    ∧ (∀ p, i ∉ [.write p, .clear p, .bufferDiscard p, .channelOffline p, .restart p]) ∧ i ≠ .pinReset
    ∧ (∀ c, i ≠ .operationTimerExpiry c)
    ∧ (∀ c bytes, i ≠ .storeCompletion c (underGrant.channel c).number .fail bytes)
    ∧ ∀ c bytes op, i = .storeCompletion c (underGrant.channel c).number .ok bytes →
        (underGrant.channel c).inProgress = some op → (underGrant.channel c).state = .busy ∧ op.kind.formFits bytes = true := by
  refine ⟨by decide +kernel, by decide +kernel, ⟨_, rfl⟩, by simp, nofun, nofun, ?_, ?_⟩
  · intro c bytes h
    injection h with _ _ h _
    exact nomatch h
  · intro c bytes op h
    injection h with hc _ _ hb
    subst hc hb
    exact everySome (o := (underGrant.channel .sc0).inProgress)
      (P := fun op => (underGrant.channel .sc0).state = .busy ∧ op.kind.formFits [] = true)
      (by decide +kernel) op

theorem witness_StoresChangeOnlyByCompletions :
    let i := Instr.storeCompletion .sc0 1 .ok [0]
    (∃ t, exec i underGrant = .next t)
    ∧ ∀ c bytes op, i = .storeCompletion c (underGrant.channel c).number .ok bytes →
        (underGrant.channel c).inProgress = some op → op.kind.formFits bytes = false := by
  refine ⟨⟨_, rfl⟩, ?_⟩
  intro c bytes op h
  injection h with hc _ _ hb
  subst hc hb
  exact everySome (o := (underGrant.channel .sc0).inProgress) (P := fun op => op.kind.formFits [0] = false) (by decide +kernel) op

theorem witness_DataRequestsLeaveTheRest :
    part.noticeWaits = true ∧ Instr.unknownFrameKind .lp1 ∈ [Instr.unknownFrameKind .lp1, .read .lp1] := by decide +kernel

end Sys2Proof.Tests
end

/-! ### Check 2 of the request decoder (R8) -/

namespace Sys2Proof.Machine

/-- Check 2 fails: no service runs. -/
theorem withRequest_restartPending {f : List Byte} {s : State} (hf : frameWellFormed f = true) (hr : s.restart ≠ none)
    (serve : ReqId → Served) : withRequest f s serve = refuse .notReady s := by
  have hp : s.restartPending = true := Option.isSome_iff_ne_none.mpr hr
  simp [withRequest, hf, hp]

/-- Check 2 stands before check 3: the window table is not asked. -/
theorem withWindow_restartPending {f : List Byte} {s : State} (hf : frameWellFormed f = true) (hr : s.restart ≠ none)
    (serve : ReqId → WindowId → Served) : withWindow f s serve = refuse .notReady s :=
  withRequest_restartPending hf hr _

section Refused
variable {s : State} {p : PortId} {command : Instr} {f : List Byte}

/-- A taken frame whose service refuses it and changes nothing. -/
theorem takeHead_refusing {r : Reason} {serve : List Byte → State → Served} (ho : s.offers p command f)
    (hs : serve f (s.beginTaking p) = refuse r (s.beginTaking p)) :
    s.takeHead p command serve = .next (s.refusing p f r) := by
  rw [takeHead_offered ho, hs]
  rfl

/-- A data request without an address, taken while restart is pending. -/
theorem takeHead_withRequest_restartPending (ho : s.offers p command f) (hf : frameWellFormed f = true)
    (hr : s.restart ≠ none) (serve : List Byte → State → ReqId → Served) :
    s.takeHead p command (fun f s => withRequest f s (serve f s)) = .next (s.refusing p f .notReady) :=
  takeHead_refusing ho (withRequest_restartPending hf (by simpa using hr) _)

/-- A data request through a window, taken while restart is pending. -/
theorem takeHead_withWindow_restartPending (ho : s.offers p command f) (hf : frameWellFormed f = true)
    (hr : s.restart ≠ none) (serve : List Byte → State → ReqId → WindowId → Served) :
    s.takeHead p command (fun f s => withWindow f s (serve f s)) = .next (s.refusing p f .notReady) :=
  takeHead_refusing ho (withWindow_restartPending hf (by simpa using hr) _)

end Refused

/-- Settles O13, by the eight data commands: five are served through a window, three without an address, and both services make
check 2 before they look at anything else. -/
theorem dataRequestsAreNotReadyDuringRestart : Obligations.DataRequestsAreNotReadyDuringRestart := by
  intro s p command f ho hf hr hc
  simp only [List.mem_cons, List.not_mem_nil, or_false] at hc
  rcases hc with rfl | rfl | rfl | rfl | rfl | rfl | rfl | rfl
  · exact takeHead_withWindow_restartPending ho hf hr resolvedRead
  · exact takeHead_withWindow_restartPending ho hf hr resolvedWrite
  · exact takeHead_withWindow_restartPending ho hf hr resolvedClear
  · exact takeHead_withRequest_restartPending ho hf hr fun f s q => s.collectTicket q (frameTicket f)
  · exact takeHead_withWindow_restartPending ho hf hr resolvedGrant
  · exact takeHead_withWindow_restartPending ho hf hr resolvedRelease
  · exact takeHead_withRequest_restartPending ho hf hr fun _ s q => s.flushPool q
  · exact takeHead_withRequest_restartPending ho hf hr fun _ s q => s.flushWait q

end Sys2Proof.Machine

/-! ### COLLECT (R60) -/

namespace Sys2Proof.Machine

section Tickets
variable {s : State} {t : BitVec 8} {i : SlotId} {x : Slot}

theorem ticketOf_of_slot (hx : s.slot i = some x) : s.ticketOf i = some x.ticket := by
  simp [State.ticketOf, hx]

/-- The search of the read slot table looks at tickets alone. -/
theorem slotOfTicket_eq_find (ht : t ≠ 0) :
    s.slotOfTicket t = (List.finRange 8).find? fun i => s.ticketOf i == some t := by
  rw [State.slotOfTicket, if_neg ht]
  congr 1
  funext i
  rw [State.ticketOf]
  cases s.slot i <;> rfl

/-- The search fails for the ticket 0 and for a ticket that no live slot holds. -/
theorem slotOfTicket_eq_none (h : t = 0 ∨ ∀ i, s.ticketOf i ≠ some t) : s.slotOfTicket t = none := by
  by_cases ht : t = 0
  · rw [State.slotOfTicket, if_pos ht]
  · have hno : ∀ i, s.ticketOf i ≠ some t := h.resolve_left ht
    rw [slotOfTicket_eq_find ht]
    simpa using hno

/-- Under the ticket law the search finds the one slot that holds the ticket: 0 is no slot's, so the search is made, and what it
finds first has no equal. -/
theorem slotOfTicket_eq_some (hl : s.ticketsLawful) (hi : s.ticketOf i = some t) : s.slotOfTicket t = some i := by
  obtain ⟨-, hzero, hunique⟩ := hl
  have ht : t ≠ 0 := fun h => hzero i (h ▸ hi)
  rw [slotOfTicket_eq_find ht]
  cases hj : (List.finRange 8).find? fun i => s.ticketOf i == some t with
  | none => simpa [hi] using List.find?_eq_none.mp hj i (List.mem_finRange i)
  | some j =>
    have hjt : s.ticketOf j = some t := by simpa using List.find?_some hj
    by_contra hne
    have hij : i ≠ j := fun h => hne (h ▸ rfl)
    exact hunique i j hij (by simp [hi]) (hi.trans hjt.symm)

end Tickets

section Collect
variable {s : State} {q : ReqId} {t : BitVec 8} {i : SlotId} {x : Slot}

/-- A COLLECT of a ticket that no slot holds. -/
theorem collectTicket_unheld (h : s.slotOfTicket t = none) : s.collectTicket q t = refuse .noTicket s := by
  simp [State.collectTicket, h]

/-- A COLLECT by a requester that does not own the slot. -/
theorem collectTicket_foreign (h : s.slotOfTicket t = some i) (hx : s.slot i = some x) (hq : x.requester ≠ q) :
    s.collectTicket q t = refuse .noTicket s := by
  simp [State.collectTicket, h, hx, hq]

/-- A COLLECT by the owner: the slot's answer, and the slot is freed unless it is FETCHING. -/
theorem collectTicket_own (h : s.slotOfTicket t = some i) (hx : s.slot i = some x) (hq : x.requester = q) :
    s.collectTicket q t = (if x.isFetching then s else s.setSlot i none, x.collected) := by
  simp [State.collectTicket, h, hx, hq]

end Collect

/-! The answer of a slot and whether a COLLECT leaves it, phase by phase. -/

theorem collected_fetching {x : Slot} (h : x.phase = .fetching) :
    x.isFetching = true ∧ x.collected = .defer x.ticket := by
  simp [Slot.isFetching, Slot.collected, h]

theorem collected_ready_read {x : Slot} {data : List Byte} {hold : Micros} {r : ReadWork}
    (h : x.phase = .ready data hold) (hw : x.work = .read r) : x.isFetching = false ∧ x.collected = .data data := by
  simp [Slot.isFetching, Slot.collected, h, hw]

theorem collected_ready_sync {x : Slot} {data : List Byte} {hold : Micros} {m : BitVec 12}
    (h : x.phase = .ready data hold) (hw : x.work = .sync m) : x.isFetching = false ∧ x.collected = .ack 0 := by
  simp [Slot.isFetching, Slot.collected, h, hw]

theorem collected_storeFailed {x : Slot} {hold : Micros} (h : x.phase = .failed .storeFailed hold) :
    x.isFetching = false ∧ x.collected = .refuse .storeError := by
  simp [Slot.isFetching, Slot.collected, h]

theorem collected_channelOffline {x : Slot} {hold : Micros} (h : x.phase = .failed .channelOffline hold) :
    x.isFetching = false ∧ x.collected = .refuse .offline := by
  simp [Slot.isFetching, Slot.collected, h]

section CollectTaken
variable {s : State} {p : PortId} {f : List Byte} {q : ReqId} {i : SlotId} {x : Slot} {answer : Body}

/-- A taken COLLECT of the owner whose slot has no outcome yet changes nothing but the port. -/
theorem exec_collect_waiting (h : s.admits p (.collect p) f q) (hi : s.slotOfTicket (frameTicket f) = some i)
    (hx : s.slot i = some x) (hq : x.requester = q) (ha : x.isFetching = true ∧ x.collected = answer) :
    exec (.collect p) s = .next (afterTaking p f (s.beginTaking p, answer)) := by
  obtain ⟨hwait, hanswer⟩ := ha
  rw [exec_collect_admitted h, collectTicket_own (by simpa using hi) (by simpa using hx) hq, hwait, hanswer]
  rfl

/-- A taken COLLECT of the owner whose slot has its outcome frees the slot. -/
theorem exec_collect_outcome (h : s.admits p (.collect p) f q) (hi : s.slotOfTicket (frameTicket f) = some i)
    (hx : s.slot i = some x) (hq : x.requester = q) (ha : x.isFetching = false ∧ x.collected = answer) :
    exec (.collect p) s = .next (afterTaking p f ((s.beginTaking p).setSlot i none, answer)) := by
  obtain ⟨hdone, hanswer⟩ := ha
  rw [exec_collect_admitted h, collectTicket_own (by simpa using hi) (by simpa using hx) hq, hdone, hanswer]
  rfl

end CollectTaken

/-- Settles O24, by the rows of R60's table: a ticket of no slot, a slot of another requester, and the owner's slot in each phase. The
ticket law makes the slot the search finds the slot named. -/
theorem collectAnswersFromTheSlot : Obligations.CollectAnswersFromTheSlot := by
  intro s p f q h hl
  constructor
  · intro hno
    rw [exec_collect_admitted h, collectTicket_unheld (by simpa using slotOfTicket_eq_none hno)]
    rfl
  · intro i x hx ht
    have hi : s.slotOfTicket (frameTicket f) = some i := slotOfTicket_eq_some hl (ht ▸ ticketOf_of_slot hx)
    constructor
    · intro hq
      rw [exec_collect_admitted h, collectTicket_foreign (by simpa using hi) (by simpa using hx) hq]
      rfl
    · intro hq
      refine ⟨fun hp => ?_, fun data hold r hp hw => ?_, fun data hold m hp hw => ?_, fun hold hp => ?_, fun hold hp => ?_⟩
      · exact exec_collect_waiting h hi hx hq (collected_fetching hp)
      · exact exec_collect_outcome h hi hx hq (collected_ready_read hp hw)
      · exact exec_collect_outcome h hi hx hq (collected_ready_sync hp hw)
      · exact exec_collect_outcome h hi hx hq (collected_storeFailed hp)
      · exact exec_collect_outcome h hi hx hq (collected_channelOffline hp)

end Sys2Proof.Machine

/-! ### Late completions (R83) -/

namespace Sys2Proof.Machine

/-- An event of the part while RESET_N is not asserted (R155). -/
theorem event_running {s : State} (hs : s.resetAsserted = false) (change : State → State) :
    s.event change = .next (change s).placeNotice := by
  simp [State.event, hs]

/-- No attempt is in progress on an IDLE or OFFLINE channel (R72), whatever its queue holds. -/
theorem inProgress_eq_none {ch : Channel} (h : ch.state = .idle ∨ ch.state = .offline) : ch.inProgress = none := by
  rcases h with h | h <;> simp [Channel.inProgress, ChannelState.working, h]

section Completion
variable {s : State} {c : ChannelId} {n : BitVec 8}

/-- A completion is discarded when no attempt is in progress or it bears another number (R83). -/
theorem exec_storeCompletion_late (hs : s.resetAsserted = false)
    (h : (s.channel c).inProgress = none ∨ n ≠ (s.channel c).number) (status : CompletionStatus) (bytes : List Byte) :
    exec (.storeCompletion c n status bytes) s = .next (s.discardLate c).placeNotice := by
  simp only [exec, execStoreCompletion, event_running hs]
  cases ho : (s.channel c).inProgress with
  | none => rfl
  | some op =>
    have hn : n ≠ (s.channel c).number := h.resolve_left (by simp [ho])
    simp [hn]

end Completion

/-- Settles O49: on an IDLE or OFFLINE channel no attempt is in progress, and elsewhere the number is another one. -/
theorem lateCompletionIsDiscarded : Obligations.LateCompletionIsDiscarded := by
  intro s c n status bytes hs h
  have hlate : (s.channel c).inProgress = none ∨ n ≠ (s.channel c).number := by
    rcases h with hidle | hoffline | hn
    · exact .inl (inProgress_eq_none (.inl hidle))
    · exact .inl (inProgress_eq_none (.inr hoffline))
    · exact .inr hn
  exact exec_storeCompletion_late hs hlate status bytes

end Sys2Proof.Machine

/-! ### GRANT and RELEASE (R112, R114, R116) -/

namespace Sys2Proof.Machine

section GrantTable
variable {s : State} {q h : ReqId} {w : WindowId}

/-- Check 4 of a GRANT passes with either right to change the window's pages. -/
theorem resolvedGrant_withRight (hr : (s.window w).rights.write = true ∨ (s.window w).rights.clear = true) (f : List Byte) :
    resolvedGrant f s q w = s.takeGrant q w := by
  rcases hr with hr | hr <;> simp [resolvedGrant, hr]

/-- A GRANT where the window requires none. -/
theorem takeGrant_unneeded (hn : (s.window w).grantRequired = false) : s.takeGrant q w = (s, .ack 0) := by
  simp [State.takeGrant, hn]

/-- A GRANT of a record that is free or the requester's own: taken and renewed alike. -/
theorem takeGrant_available (hn : (s.window w).grantRequired = true) (hh : s.holderOf w = none ∨ s.holderOf w = some q) :
    s.takeGrant q w = (s.startGrant w q, .ack 1) := by
  rcases hh with hfree | hown
  · simp [State.takeGrant, hn, hfree]
  · simp [State.takeGrant, hn, hown]

/-- A GRANT of a record that another requester holds. -/
theorem takeGrant_foreign (hn : (s.window w).grantRequired = true) (hh : s.holderOf w = some h) (hq : h ≠ q) :
    s.takeGrant q w = refuse .grantHeld s := by
  simp [State.takeGrant, hn, hh, hq]

/-- A RELEASE by the holder. -/
theorem giveBack_own (hh : s.holderOf w = some q) : s.giveBack q w = (s.endGrant w, .ack (s.openUnder w).length) := by
  simp [State.giveBack, hh]

/-- A RELEASE by a requester that does not hold the grant. -/
theorem giveBack_foreign (hh : s.holderOf w ≠ some q) : s.giveBack q w = refuse .noGrant s := by
  simp [State.giveBack, hh]

end GrantTable

section GrantTaken
variable {s : State} {p : PortId} {f : List Byte} {q : ReqId} {w : WindowId}

/-- A taken GRANT with a right to change the window's pages is answered by the grant table. -/
theorem exec_grant_withRight (h : s.resolves p (.grant p) f q w)
    (hr : (s.window w).rights.write = true ∨ (s.window w).rights.clear = true) :
    exec (.grant p) s = .next (afterTaking p f ((s.beginTaking p).takeGrant q w)) := by
  rw [exec_grant_resolved h, resolvedGrant_withRight (by simpa using hr)]

/-- A taken RELEASE is answered by the grant table alone. -/
theorem exec_release_giveBack (h : s.resolves p (.release p) f q w) :
    exec (.release p) s = .next (afterTaking p f ((s.beginTaking p).giveBack q w)) := exec_release_resolved h

end GrantTaken

/-- The inactivity timer starts from the parameters, which steps 1 and 2 of a taking leave. -/
theorem beginTaking_startGrant (s : State) (p : PortId) (w : WindowId) (q : ReqId) :
    (s.beginTaking p).startGrant w q = (s.beginTaking p).setGrant w (some ⟨q, s.params.grantLife * 1000⟩) := by
  rw [State.startGrant, beginTaking_params]

/-- Settles O25, by cases on the grant record, which steps 1 and 2 of the taking leave: a GRANT finds that none is required, a record
free or its own, or another holder; a RELEASE finds the requester as the holder or not. -/
theorem grantAndReleaseAnswerByTheRecord : Obligations.GrantAndReleaseAnswerByTheRecord := by
  intro s p f q w
  constructor
  · intro h hr
    rw [exec_grant_withRight h hr]
    refine ⟨fun hn => ?_, fun hn hh => ?_, fun holder hn hh hq => ?_⟩
    · rw [takeGrant_unneeded (by simpa using hn)]
    · rw [takeGrant_available (by simpa using hn) (by simpa using hh), beginTaking_startGrant]
    · rw [takeGrant_foreign (by simpa using hn) (by simpa using hh) hq]
      rfl
  · intro h
    rw [exec_release_giveBack h]
    constructor
    · intro hh
      rw [giveBack_own (by simpa using hh), beginTaking_openUnder]
      rfl
    · intro hh
      rw [giveBack_foreign (by simpa using hh)]
      rfl

end Sys2Proof.Machine

/-! ### Frame arrivals (R128) -/

namespace Sys2Proof.Machine

/-! The transmitter of an UP port: what a start of it does where no frame waits, and where it is at work. -/

section Transmitter
variable {q : Port}

/-- An IDLE transmitter of a lawful port has nothing to send (R132). -/
theorem outbound_eq_nil_of_idle (hl : q.lawful) (hi : q.transmitter = .idle) : q.outbound = [] := by
  obtain ⟨-, -, -, hfits, -⟩ := hl
  simp only [Port.transmitterFits, hi, Bool.and_eq_true, List.isEmpty_iff] at hfits
  exact hfits.1

/-- Credits alone are owed: an IDLE transmitter starts a CREDIT frame that returns them all (R133). -/
theorem startTransmitter_credit (hup : q.up = true) (hi : q.transmitter = .idle) (ho : q.outbound = []) (hc : 1 ≤ q.owed) :
    q.startTransmitter = { q with owed := 0, transmitter := .sendingCredit q.owed } := by
  simp only [Port.startTransmitter, hup, hi, ho, if_pos hc]

/-- A transmitter at work is left alone (R132). -/
theorem startTransmitter_working (hw : q.transmitter ≠ .idle) : q.startTransmitter = q := by
  rw [Port.startTransmitter]
  split
  next hi _ => exact absurd hi hw
  next hi _ => exact absurd hi hw
  next => rfl

/-- A drop at a lawful UP port owes a credit: an IDLE transmitter returns it at once, another one later (R128, R133). -/
theorem startTransmitter_dropped (hup : q.up = true) (hl : q.lawful) (k : PortCounters) :
    { q with owed := q.owed + 1, counters := k }.startTransmitter =
      if q.transmitter = .idle then { q with owed := 0, transmitter := .sendingCredit (q.owed + 1), counters := k }
      else { q with owed := q.owed + 1, counters := k } := by
  split
  next hi => exact startTransmitter_credit hup hi (outbound_eq_nil_of_idle (q := q) hl hi) (Nat.le_add_left 1 q.owed)
  next hw => exact startTransmitter_working hw

end Transmitter

/-! The three arrival checks, each in the words of R128. -/

theorem overrun_iff (q : Port) : q.overrun = true ↔ 8 ≤ q.inbound.length + q.owed := by
  simp [Port.overrun]

theorem frameIntact_iff (f : List Byte) :
    frameIntact f = true ↔ 20 ≤ f.length ∧ f.length ≤ 84 ∧ f = withTrailer (f.take (f.length - 4)) := by
  simp [frameIntact, trailerMatches, and_assoc]

/-! The four fates of an arrival, by the first check that fails. -/

section Arrive
variable {s : State} {p : PortId} {f : List Byte}

theorem arrive_overrun (ho : (s.port p).overrun = true) :
    s.arrive p f =
      (s.setPort p { s.port p with
        counters := { (s.port p).counters with overruns := bump (s.port p).counters.overruns } }).append (.frameOverrun p) := by
  simp [State.arrive, ho]

theorem arrive_crcDrop (ho : (s.port p).overrun = false) (hf : frameIntact f = false) :
    s.arrive p f = s.setPort p { s.port p with
      owed := (s.port p).owed + 1
      counters := { (s.port p).counters with crcDrops := bump (s.port p).counters.crcDrops } }.startTransmitter := by
  simp [State.arrive, ho, hf]

theorem arrive_misrouted (ho : (s.port p).overrun = false) (hf : frameIntact f = true) (hd : frameDest f ≠ 0) :
    s.arrive p f = s.setPort p { s.port p with
      owed := (s.port p).owed + 1
      counters := { (s.port p).counters with misrouted := bump (s.port p).counters.misrouted } }.startTransmitter := by
  simp only [State.arrive, ho, hf, Bool.not_true, Bool.false_eq_true, if_false, bne_iff_ne, if_pos hd]

theorem arrive_queued (ho : (s.port p).overrun = false) (hf : frameIntact f = true) (hd : frameDest f = 0) :
    s.arrive p f = s.setPort p { s.port p with inbound := (s.port p).inbound ++ [f] } := by
  simp [State.arrive, ho, hf, hd]

/-- FRAME_ARRIVAL at an UP port makes the arrival checks. -/
theorem exec_frameArrival_up (hs : s.resetAsserted = false) (hup : (s.port p).up = true) :
    exec (.frameArrival p f) s = .next (s.arrive p f).placeNotice := by
  simp only [exec, execFrameArrival, event_running hs, if_pos hup]

end Arrive

/-- Settles O6, by the first arrival check that fails. In the two drops the port law says that an IDLE transmitter has no frame to
start, so the credit owed leaves in a CREDIT frame. -/
theorem arrivalIsCheckedInOrder : Obligations.ArrivalIsCheckedInOrder := by
  intro s p f hs hup hl q dropped intact
  have hroom (h : q.inbound.length + q.owed < 8) : q.overrun = false :=
    Bool.eq_false_iff.mpr fun ho => Nat.not_le.mpr h ((overrun_iff q).mp ho)
  have hdrop (k : PortCounters) : s.setPort p { q with owed := q.owed + 1, counters := k }.startTransmitter = dropped k := by
    rw [startTransmitter_dropped hup hl k, apply_ite (s.setPort p)]
  rw [exec_frameArrival_up hs hup]
  refine ⟨fun hfull => ?overrun, fun h hf => ?crcDrop, fun h hf hd => ?misrouted, fun h hf hd => ?queued⟩
  case overrun => rw [arrive_overrun ((overrun_iff q).mpr hfull.ge)]
  case crcDrop => rw [arrive_crcDrop (hroom h) (Bool.eq_false_iff.mpr (mt (frameIntact_iff f).mp hf)), hdrop]
  case misrouted => rw [arrive_misrouted (hroom h) ((frameIntact_iff f).mpr hf) hd, hdrop]
  case queued => rw [arrive_queued (hroom h) ((frameIntact_iff f).mpr hf) hd]

end Sys2Proof.Machine

/-! ### EVENTS_READ and COUNTERS_CLEAR (R158, R160, R165, R172) -/

namespace Sys2Proof.Machine

/-! The sixteen bytes of an event record: its codes as single bytes, then the record byte by byte. -/

theorem ofNat_portCode (p : PortId) : BitVec.ofNat 8 (portCode p) = if p = .lp0 then 0 else 1 := by cases p <;> rfl

theorem ofNat_channelCode (c : ChannelId) : BitVec.ofNat 8 (channelCode c) = if c = .sc0 then 0 else 1 := by
  cases c <;> rfl

/-- Every field of a record but sequence, time and place is one byte, and an absent field is sent as zero (R172). -/
theorem EventRecord.bytes_eq (r : EventRecord) {e : EventFields} (he : r.event.fields = e) :
    r.bytes = bytesOf 2 r.sequence.toNat ++ [BitVec.ofNat 8 e.kind, BitVec.ofNat 8 e.marks] ++ bytesOf 4 r.time.toNat
      ++ [BitVec.ofNat 8 (e.port.getD 0), BitVec.ofNat 8 (e.channel.getD 0), BitVec.ofNat 8 (e.requester.getD 0),
        BitVec.ofNat 8 (e.number.getD 0)]
      ++ bytesOf 2 (e.place.getD 0) ++ [BitVec.ofNat 8 (e.cause.getD 0), 0] := by
  simp [EventRecord.bytes, he, bytesOf_one]

/-! The removal of the oldest records (R160). -/

section RemoveRecords
variable {s : State} {n : Nat}

theorem removeRecords_all (h : s.log.length ≤ n) :
    s.removeRecords n = { s with log := [], overflow := 0, notice := .armed } := by
  simp [State.removeRecords, h]

theorem removeRecords_some (h : n < s.log.length) : s.removeRecords n = { s with log := s.log.drop n } := by
  simp [State.removeRecords, h]

end RemoveRecords

section EventsRead
variable {s : State} {n : Nat} (q : ReqId)

/-- A count outside 1 to 4 is no operand of EVENTS_READ. -/
theorem eventsReadRule_outside (hn : n < 256) (h : n = 0 ∨ 4 < n) :
    eventsReadRule q [BitVec.ofNat 8 n] s = decline s .badOperand := by
  have hcount : ¬ (1 ≤ n ∧ n ≤ 4) := by omega
  simp [eventsReadRule, byteAt, Nat.mod_eq_of_lt hn, hcount]

/-- A count of 1 to 4 removes that many records and replies with them. -/
theorem eventsReadRule_counted (h1 : 1 ≤ n) (h4 : n ≤ 4) :
    eventsReadRule q [BitVec.ofNat 8 n] s = answerOk (s.removeRecords n)
      (bytesOf 2 s.overflow.toNat ++ [BitVec.ofNat 8 (s.log.length - n), BitVec.ofNat 8 (min n s.log.length)]
        ++ (s.log.take n).flatMap EventRecord.bytes) := by
  have hn : n % 256 = n := Nat.mod_eq_of_lt (by omega)
  simp [eventsReadRule, byteAt, hn, h1, h4, bytesOf_one]

end EventsRead

section MgmtTaken
variable {s : State} {p : PortId} {f : List Byte} {n : Nat}

/-- A taken EVENTS_READ with a count outside 1 to 4. -/
theorem exec_eventsRead_outside (h : s.obeys p (.eventsRead p) f [BitVec.ofNat 8 n]) (hn : n < 256) (hout : n = 0 ∨ 4 < n) :
    exec (.eventsRead p) s = .next (repliedTo p f (s.beginTaking p) .badOperand []) := by
  rw [exec_obeyed rfl h rfl (.inr rfl), eventsReadRule_outside _ hn hout]
  rfl

/-- A taken EVENTS_READ with a count of 1 to 4; the log and the overflow count it replies from are those before the event. -/
theorem exec_eventsRead_counted (h : s.obeys p (.eventsRead p) f [BitVec.ofNat 8 n]) (h1 : 1 ≤ n) (h4 : n ≤ 4) :
    exec (.eventsRead p) s = .next (repliedTo p f ((s.beginTaking p).removeRecords n) .ok
      (bytesOf 2 s.overflow.toNat ++ [BitVec.ofNat 8 (s.log.length - n), BitVec.ofNat 8 (min n s.log.length)]
        ++ (s.log.take n).flatMap EventRecord.bytes)) := by
  rw [exec_obeyed rfl h rfl (.inr rfl), eventsReadRule_counted _ h1 h4, beginTaking_overflow, beginTaking_log]
  rfl

/-- An operation that is not served while restart is pending is answered NOT_READY then, before its operand is looked at (R142). -/
theorem takeHead_serveMgmt_restartPending {command : Instr} {operand : List Byte} (h : s.obeys p command f operand)
    (hr : s.restart ≠ none) (size : Nat) (rule : ReqId → List Byte → State → Answer) :
    s.takeHead p command (serveMgmt size false rule) = .next (repliedTo p f (s.beginTaking p) .notReady []) := by
  obtain ⟨ho, hf, hm, -⟩ := h
  have hp : s.restartPending = true := Option.isSome_iff_ne_none.mpr hr
  rw [takeHead_offered ho]
  simp [serveMgmt, withManager, hf, hm, hp, decline, repliedTo]

end MgmtTaken

/-- Settles O38, by the three ranges of the count against 1, 4 and the depth; the record's bytes are compared event by event, and
where the event has a cause, cause by cause. -/
theorem eventsReadRemovesTheOldest : Obligations.EventsReadRemovesTheOldest := by
  intro s p f n hn h sent port channel requester number record reply
  have hbytes : EventRecord.bytes = record := by
    funext ⟨sequence, time, event⟩
    rw [EventRecord.bytes_eq _ rfl]
    cases event with
    | linkUp p | linkDown p | frameOverrun p =>
      simp only [Event.fields, Option.getD_some, ofNat_portCode]
      rfl
    | readAbandoned | grantExpired | restartDone =>
      simp only [Event.fields, Option.getD_some, ofNat_toNat_reqId]
      rfl
    | fetchFailed | programHeld | lateCompletion | channelOnline =>
      simp only [Event.fields, Option.getD_some, ofNat_channelCode, ofNat_toNat_reqId]
      rfl
    | clearFailed _ _ _ cause | channelOffline _ cause | bufferDiscarded _ _ _ _ cause | grantRevoked _ _ cause =>
      simp only [Event.fields, Option.getD_some, ofNat_channelCode, ofNat_toNat_reqId]
      cases cause <;> rfl
  refine ⟨exec_eventsRead_outside h hn, fun h1 h4 hall => ?_, fun h1 h4 hsome => ?_⟩
  · rw [exec_eventsRead_counted h h1 h4, hbytes, removeRecords_all (by simpa using hall)]
  · rw [exec_eventsRead_counted h h1 h4, hbytes, removeRecords_some (by simpa using hsome), beginTaking_log]

/-- Settles O39: outside a restart the operation's own rule runs on the state that steps 1 and 2 of the taking leave, with the frame
already counted; during a restart it does not run. -/
theorem countersClearZeroesEveryCounter : Obligations.CountersClearZeroesEveryCounter := by
  intro s p f h begun
  constructor
  · intro hr
    exact exec_obeyed (rule := countersClearRule) rfl h rfl (.inl hr)
  · intro hr
    exact takeHead_serveMgmt_restartPending h hr 0 countersClearRule

end Sys2Proof.Machine

/-! ### What one command can do, said once

`exec_cases` sorts the answers of the forty commands into five kinds. `Effect` lists the changes of the events of ports, channels and
timers; `DataWork` and `MgmtWork` list what the service of a taken frame can leave, each with the facts its checks established. The
laws and the footprints below are cases on these relations. -/

namespace Sys2Proof.Machine

/-- The port a taking command names and the service it runs on the head frame. -/
def serviceOf : Instr → Option (PortId × (List Byte → State → Served))
  | .unknownFrameKind p => some (p, serveUnknownKind)
  | .read p => some (p, serveRead)
  | .write p => some (p, serveWrite)
  | .clear p => some (p, serveClear)
  | .collect p => some (p, serveCollect)
  | .grant p => some (p, serveGrant)
  | .release p => some (p, serveRelease)
  | .flush p => some (p, serveFlush)
  | .flushWithWait p => some (p, serveFlushWithWait)
  | .unknownMgmtOperation p => some (p, serveUnknownOperation)
  | .windowLoad p => some (p, serveMgmt 16 false windowLoadRule)
  | .windowClear p => some (p, serveMgmt 1 false windowClearRule)
  | .windowRead p => some (p, serveMgmt 1 false windowReadRule)
  | .grantRevoke p => some (p, serveMgmt 1 false grantRevokeRule)
  | .bufferRead p => some (p, serveMgmt 1 false bufferReadRule)
  | .bufferRetry p => some (p, serveMgmt 1 false bufferRetryRule)
  | .bufferDiscard p => some (p, serveMgmt 1 false bufferDiscardRule)
  | .sealAll p => some (p, serveMgmt 0 false sealAllRule)
  | .channelOffline p => some (p, serveMgmt 1 false channelOfflineRule)
  | .channelOnline p => some (p, serveMgmt 1 false channelOnlineRule)
  | .eventsRead p => some (p, serveMgmt 1 true eventsReadRule)
  | .countersRead p => some (p, serveMgmt 1 false countersReadRule)
  | .countersClear p => some (p, serveMgmt 0 false countersClearRule)
  | .paramSet p => some (p, serveMgmt 3 false paramSetRule)
  | .paramRead p => some (p, serveMgmt 0 false paramReadRule)
  | .mgmtSetWrite p => some (p, serveMgmt 4 false mgmtSetWriteRule)
  | .statusRead p => some (p, serveMgmt 0 true statusReadRule)
  | .restart p => some (p, serveMgmt 0 true restartRule)
  | .frameArrival _ _ | .linkUp _ | .linkDown _ | .transmissionEnd _ | .storeCompletion _ _ _ _ | .operationTimerExpiry _
  | .idleTimerExpiry _ | .openLimitExpiry _ | .holdTimerExpiry _ | .inactivityTimerExpiry _ | .pinReset
  | .resetDeassertion _ => none

/-- A taking command is the taking of the head frame with its service (R131). -/
theorem exec_service {i : Instr} {p : PortId} {serve : List Byte → State → Served} (h : serviceOf i = some (p, serve))
    (s : State) : exec i s = s.takeHead p i serve := by
  cases i <;> simp only [serviceOf, Option.some.injEq, Prod.mk.injEq, reduceCtorEq] at h <;>
    (obtain ⟨rfl, rfl⟩ := h; rfl)

/-- What the event of a port, a channel or a timer changes before a waiting notice is placed. -/
inductive Effect (s : State) : Instr → State → Prop where
  | nothing (i : Instr) : Effect s i s
  | arrival (p : PortId) (f : List Byte) (hup : (s.port p).up = true) : Effect s (.frameArrival p f) (s.arrive p f)
  | linkUp (p : PortId) (hup : (s.port p).up = false) :
      Effect s (.linkUp p) ((s.setPort p ((s.port p).cleared true)).append (.linkUp p))
  | linkDown (p : PortId) (hup : (s.port p).up = true) :
      Effect s (.linkDown p) ((s.setPort p ((s.port p).cleared false)).append (.linkDown p))
  | transmissionEnd (p : PortId) : Effect s (.transmissionEnd p) (s.setPort p (s.port p).transmissionEnded)
  | completion (c : ChannelId) (status : CompletionStatus) (bytes : List Byte) (op : Op)
      (hop : (s.channel c).inProgress = some op) :
      Effect s (.storeCompletion c (s.channel c).number status bytes) (s.takeCompletion c op status bytes).settleRestart
  | late (c : ChannelId) (n : BitVec 8) (status : CompletionStatus) (bytes : List Byte) 
      (hl : (s.channel c).inProgress = none ∨ n ≠ (s.channel c).number) :
      Effect s (.storeCompletion c n status bytes) (s.discardLate c)
  | timeout (c : ChannelId) (left : Micros) (op : Op) (ht : (s.channel c).timer = some left)
      (hop : (s.channel c).inProgress = some op) :
      Effect s (.operationTimerExpiry c) (((s.elapse left).countTimeout).failedAttempt c op).settleRestart
  | idleExpiry (b : BufferId) (x : Buffer) (idle limit : Micros) (hx : s.buffer b = some x)
      (hp : x.phase = .opened idle limit) : Effect s (.idleTimerExpiry b) ((s.elapse idle).sealBuffer b)
  | limitExpiry (b : BufferId) (x : Buffer) (idle limit : Micros) (hx : s.buffer b = some x)
      (hp : x.phase = .opened idle limit) : Effect s (.openLimitExpiry b) ((s.elapse limit).sealBuffer b)
  | holdExpiry (i : SlotId) (x : Slot) (left : Micros) (hx : s.slot i = some x) (hl : x.holdLeft = some left) :
      Effect s (.holdTimerExpiry i) ((s.elapse left).abandonSlot i x)
  | grantExpiry (w : WindowId) (g : Grant) (hg : s.grantOf w = some g) :
      Effect s (.inactivityTimerExpiry w) (((s.elapse g.timer).endGrant w).append (.grantExpired g.holder w))

/-- A command that takes no frame, pin reset and its end apart, is an event with one of the effects. -/
theorem exec_event {i : Instr} (h : serviceOf i = none) (hr : i ≠ .pinReset) (hd : ∀ m, i ≠ .resetDeassertion m) (s : State) :
    ∃ change, exec i s = s.event change ∧ Effect s i (change s) := by
  cases i with
  | frameArrival p f =>
    simp only [exec, execFrameArrival]
    refine ⟨_, rfl, ?_⟩
    split
    next hup => exact .arrival p f hup
    next => exact .nothing _
  | linkUp p =>
    simp only [exec, execLinkUp]
    refine ⟨_, rfl, ?_⟩
    split
    next => exact .nothing _
    next hup => exact .linkUp p (by simpa using hup)
  | linkDown p =>
    simp only [exec, execLinkDown]
    refine ⟨_, rfl, ?_⟩
    split
    next hup => exact .linkDown p hup
    next => exact .nothing _
  | transmissionEnd p => exact ⟨fun s => s.setPort p (s.port p).transmissionEnded, rfl, .transmissionEnd p⟩
  | storeCompletion c n status bytes =>
    simp only [exec, execStoreCompletion]
    refine ⟨_, rfl, ?_⟩
    split
    next op hop =>
      split
      next hn => subst hn; exact .completion c status bytes op hop
      next hn => exact .late c n status bytes (.inr hn)
    next hop => exact .late c n status bytes (.inl hop)
  | operationTimerExpiry c =>
    simp only [exec, execOperationTimerExpiry]
    refine ⟨_, rfl, ?_⟩
    split
    next left op ht hop => exact .timeout c left op ht hop
    next => exact .nothing _
  | idleTimerExpiry b =>
    simp only [exec, execIdleTimerExpiry]
    refine ⟨_, rfl, ?_⟩
    split
    next idle limit hb =>
      obtain ⟨x, hx, hp⟩ := Option.map_eq_some_iff.mp hb
      exact .idleExpiry b x idle limit hx hp
    next => exact .nothing _
  | openLimitExpiry b =>
    simp only [exec, execOpenLimitExpiry]
    refine ⟨_, rfl, ?_⟩
    split
    next idle limit hb =>
      obtain ⟨x, hx, hp⟩ := Option.map_eq_some_iff.mp hb
      exact .limitExpiry b x idle limit hx hp
    next => exact .nothing _
  | holdTimerExpiry i =>
    simp only [exec, execHoldTimerExpiry]
    refine ⟨_, rfl, ?_⟩
    split
    next x hx =>
      split
      next left hl => exact .holdExpiry i x left hx hl
      next => exact .nothing _
    next => exact .nothing _
  | inactivityTimerExpiry w =>
    simp only [exec, execInactivityTimerExpiry]
    refine ⟨_, rfl, ?_⟩
    split
    next g hg => exact .grantExpiry w g hg
    next => exact .nothing _
  | pinReset => exact absurd rfl hr
  | resetDeassertion m => exact absurd rfl (hd m)
  | _ => simp [serviceOf] at h

/-- What a command answers: nothing happens, a frame is taken and served, an event takes place, or RESET_N is asserted or
deasserted. -/
inductive Answers (s : State) (i : Instr) : State → Prop where
  | nothing : Answers s i s
  | taken (p : PortId) (serve : List Byte → State → Served) (f : List Byte) (hi : serviceOf i = some (p, serve))
      (ho : s.offers p i f) : Answers s i (afterTaking p f (serve f (s.beginTaking p)))
  | event (u : State) (hs : s.resetAsserted = false) (hu : Effect s i u) : Answers s i u.placeNotice
  | pinReset (hi : i = .pinReset) :
      Answers s i { State.reset with store0 := s.store0, store1 := s.store1, pending := s.pending }
  | deasserted (mgid : BitVec 5) (hi : i = .resetDeassertion mgid) (hs : s.resetAsserted = true) :
      Answers s i { s with
        resetAsserted := false, managers := joinSet 0 (strapId mgid).toNat, params := Params.defaults, restart := none
        timeBase := 0 }

/-- Every command answers a next state, in one of these ways. -/
theorem exec_answers (i : Instr) (s : State) : ∃ t, exec i s = .next t ∧ Answers s i t := by
  by_cases hr : i = .pinReset
  · exact ⟨_, by rw [hr]; rfl, .pinReset hr⟩
  by_cases hd : ∃ m, i = .resetDeassertion m
  · obtain ⟨m, hm⟩ := hd
    cases hs : s.resetAsserted
    · exact ⟨s, by rw [hm]; simp [exec, execResetDeassertion, hs], .nothing⟩
    · exact ⟨_, by rw [hm]; simp only [exec, execResetDeassertion, hs, if_true], .deasserted m hm hs⟩
  cases hi : serviceOf i with
  | some ps =>
    obtain ⟨p, serve⟩ := ps
    rw [exec_service hi]
    rcases takeHead_or s p i serve with h | ⟨f, ho, h⟩
    · exact ⟨s, h, .nothing⟩
    · exact ⟨_, h, .taken p serve f hi ho⟩
  | none =>
    obtain ⟨change, he, hu⟩ := exec_event hi hr (not_exists.mp hd) s
    cases hs : s.resetAsserted
    · exact ⟨_, he.trans (event_running hs change), .event _ hs hu⟩
    · exact ⟨s, by rw [he]; simp [State.event, hs], .nothing⟩

theorem answers_of_exec {i : Instr} {s t : State} (h : exec i s = .next t) : Answers s i t := by
  obtain ⟨u, hu, ha⟩ := exec_answers i s
  rw [h] at hu
  cases hu
  exact ha

end Sys2Proof.Machine

/-! ### What the service of a taken frame can leave -/

namespace Sys2Proof.Machine

/-- The state after the decoder's note of an accepted WRITE or CLEAR through window w: a grant the window requires is used (R115). -/
def State.used (s : State) (w : WindowId) : State := if (s.window w).grantRequired then s.useGrant w else s

/-- The state a service leaves, with what its checks established. The response stands beside it. -/
inductive Work (s : State) : Instr → State → Prop where
  | same (i : Instr) : Work s i s
  | busy (i : Instr) : Work s i s.countBusy
  | overlayHit (p : PortId) : Work s (.read p) s.countOverlayHit
  | deferred (p : PortId) (i : SlotId) (q : ReqId) (c : ChannelId) (pg : BitVec 16) (o n : Nat) (hq : q ≠ 0)
      (hon : (s.channel c).state.online = true) (hpart : (s.overlay c pg o n).all Option.isSome = false)
      (hslot : s.slotFor q = some i) (hroom : s.queueHasRoom c = true) (hn : 1 ≤ n ∧ n ≤ 64) (hpage : o + n ≤ 256) :
      Work s (.read p)
        ((s.allocate i q (.read ⟨c, pg, o, n, s.overlay c pg o n, none⟩)).appendOp c (.fetch pg o n i)).countDeferred
  | merged (p : PortId) (b : BufferId) (q : ReqId) (w : WindowId) (gw : Option WindowId) (c : ChannelId) (pg : BitVec 16)
      (o : Nat) (bytes : List Byte) (hq : q ≠ 0) (hgw : ∀ v, gw = some v → s.grantOf v ≠ none)
      (hon : (s.channel c).state.online = true) (hbytes : bytes ≠ []) (hpage : o + bytes.length ≤ 256)
      (hb : (s.liveOn c pg).find? (fun b => s.bufferHas b Buffer.isOpen) = some b) :
      Work s (.write p) ((s.mergeInto b q gw o bytes).used w)
  | opened (p : PortId) (b : BufferId) (q : ReqId) (w : WindowId) (gw : Option WindowId) (c : ChannelId) (pg : BitVec 16)
      (o : Nat) (bytes : List Byte) (hq : q ≠ 0) (hgw : ∀ v, gw = some v → s.grantOf v ≠ none)
      (hon : (s.channel c).state.online = true) (hbytes : bytes ≠ []) (hpage : o + bytes.length ≤ 256)
      (hnone : (s.liveOn c pg).find? (fun b => s.bufferHas b Buffer.isOpen) = none)
      (hlive : (s.liveOn c pg).length < 2) (hfree : s.freeBuffer = some b) :
      Work s (.write p) (((s.openBuffer b c pg).mergeInto b q gw o bytes).used w)
  | pressure (p : PortId) : Work s (.write p) s.pressureSeal.countBusy
  | cleared (p : PortId) (q : ReqId) (w : WindowId) (c : ChannelId) (sector : BitVec 12) (hq : q ≠ 0)
      (hon : (s.channel c).state.online = true) (hlive : s.sectorLive c sector = false) (hroom : s.queueHasRoom c = true) :
      Work s (.clear p) ((s.appendOp c (.clear sector q)).used w)
  | collected (p : PortId) (i : SlotId) (x : Slot) (hx : s.slot i = some x) (hf : x.isFetching = false) :
      Work s (.collect p) (s.setSlot i none)
  | granted (p : PortId) (w : WindowId) (q : ReqId) (hq : q ≠ 0) (hv : (s.window w).valid = true)
      (hg : (s.window w).grantRequired = true) : Work s (.grant p) (s.startGrant w q)
  | released (p : PortId) (w : WindowId) : Work s (.release p) (s.endGrant w)
  | flushed (p : PortId) (q : ReqId) : Work s (.flush p) (s.sealAllOf (s.openBy q))
  | waited (p : PortId) (i : SlotId) (q : ReqId) (hq : q ≠ 0) (hcan : s.cannotCommit q = false)
      (hsome : s.waitedBy q ≠ []) (hslot : s.slotFor q = some i) :
      Work s (.flushWithWait p)
        ((s.sealAllOf (s.openBy q)).allocate i q (.sync (setOfList 12 ((s.waitedBy q).map Fin.val))))
  | loaded (p : PortId) (w : WindowId) (e : WindowEntry) (op : List Byte) (he : windowLoadOperand op = some (w, e))
      (hov : s.loadOverlaps w e = false) : Work s (.windowLoad p) ((s.setWindow w e).revokeGrant w .windowLoad)
  | windowCleared (p : PortId) (w : WindowId) :
      Work s (.windowClear p) ((s.setWindow w { s.window w with valid := false }).revokeGrant w .windowClear)
  | revoked (p : PortId) (w : WindowId) : Work s (.grantRevoke p) (s.revokeGrant w .revoke)
  | retried (p : PortId) (b : BufferId) (x : Buffer) (hx : s.buffer b = some x) (hheld : x.isHeld = true)
      (hon : (s.channel x.channel).state.online = true) : Work s (.bufferRetry p) (s.retryBuffer b x)
  | discarded (p : PortId) (b : BufferId) (x : Buffer) (q : ReqId) (cause : HoldCause) (hx : s.buffer b = some x)
      (hp : x.phase = .held cause) :
      Work s (.bufferDiscard p)
        (((s.append (.bufferDiscarded x.channel q x.page b cause)).releaseBuffer b).tryEnqueue x.channel)
  | sealedAll (p : PortId) : Work s (.sealAll p) (s.sealAllOf (s.liveWith Buffer.isOpen))
  | wentOffline (p : PortId) (c : ChannelId) : Work s (.channelOffline p) (s.requestOffline c)
  | cameOnline (p : PortId) (c : ChannelId) (hc : (s.channel c).state = .offline) :
      Work s (.channelOnline p) (s.bringOnline c)
  | removed (p : PortId) (n : Nat) : Work s (.eventsRead p) (s.removeRecords n)
  | zeroed (p : PortId) :
      Work s (.countersClear p) { s with
        lp0 := { s.lp0 with counters := PortCounters.zero }
        lp1 := { s.lp1 with counters := PortCounters.zero }
        counters := PartCounters.zero }
  | paramSet (p : PortId) (id : ParamId) (v : Nat) (ps : Params) (hps : s.params.set id v = some ps) :
      Work s (.paramSet p)
        (if ps.noticeTarget = s.params.noticeTarget then { s with params := ps } else { s with params := ps }.retarget)
  | managersSet (p : PortId) (m : ReqSet) (h0 : inSet m 0 = false) (hm : m ≠ 0) :
      Work s (.mgmtSetWrite p) { s with managers := m }
  | restarted (p : PortId) (q : ReqId) (hr : s.restart = none) : Work s (.restart p) (s.takeRestart q)

/-! #### The facts of check 1 -/

/-- A well-formed frame's requester is 1..31 (R6, R7). -/
theorem frameRequester_ne_zero {f : List Byte} (h : frameWellFormed f = true) : frameRequester f ≠ 0 := by
  have hs : 1 ≤ (frameSource f).toNat ∧ (frameSource f).toNat ≤ 31 := by
    simp only [frameWellFormed] at h
    split at h
    next => cases h
    next => simp only [Bool.and_eq_true, decide_eq_true_eq] at h; exact h.1.1.1.1.1
  intro h0
  have hzero : (frameRequester f).toNat = 0 := by rw [h0]; rfl
  rw [frameRequester, BitVec.toNat_setWidth] at hzero
  omega

/-- The length and payload checks of check 1, for the kind the frame has (R7, R170). -/
theorem lengthFits_of_wellFormed {f : List Byte} {k : RequestKind} (h : frameWellFormed f = true)
    (hk : requestKindOf (frameKind f) = some k) : lengthFits k (frameLength f) (framePayload f).length = true := by
  simp only [frameWellFormed, hk, Bool.and_eq_true] at h
  exact h.1.1.1.1.2

/-- No operation code names a data request. -/
theorem mgmtCommandOf_ne_data (p p' : PortId) (code : Byte) : mgmtCommandOf p code ≠ .read p' ∧ mgmtCommandOf p code ≠ .write p' := by
  simp only [mgmtCommandOf]
  split <;> simp

/-- The kind of a frame that is the READ command's, and of one that is the WRITE command's. -/
theorem requestKindOf_read {p p' : PortId} {f : List Byte} (h : takingCommand p f = .read p') :
    requestKindOf (frameKind f) = some .read := by
  cases hk : requestKindOf (frameKind f) with
  | none => simp [takingCommand, hk] at h
  | some k =>
    cases k with
    | read => rfl
    | flush => simp only [takingCommand, hk] at h; split at h <;> simp at h
    | mgmt =>
      simp only [takingCommand, hk] at h
      split at h
      next => exact absurd h (mgmtCommandOf_ne_data ..).1
      next => simp at h
    | _ => simp [takingCommand, hk] at h

theorem requestKindOf_write {p p' : PortId} {f : List Byte} (h : takingCommand p f = .write p') :
    requestKindOf (frameKind f) = some .write := by
  cases hk : requestKindOf (frameKind f) with
  | none => simp [takingCommand, hk] at h
  | some k =>
    cases k with
    | write => rfl
    | flush => simp only [takingCommand, hk] at h; split at h <;> simp at h
    | mgmt =>
      simp only [takingCommand, hk] at h
      split at h
      next => exact absurd h (mgmtCommandOf_ne_data ..).2
      next => simp at h
    | _ => simp [takingCommand, hk] at h

/-! #### Each service, check by check -/

section Services
variable {s : State} {f : List Byte}

/-- A data request without an address leaves the state, or passes checks 1 and 2. -/
theorem withRequest_or (serve : ReqId → Served) :
    (withRequest f s serve).1 = s
      ∨ frameWellFormed f = true ∧ withRequest f s serve = serve (frameRequester f) := by
  unfold withRequest
  split
  next => exact .inl rfl
  next hf =>
    split
    next => exact .inl rfl
    next => exact .inr ⟨by simpa using hf, rfl⟩

/-- A data request with an address leaves the state, or passes checks 1 to 3 through a window. -/
theorem withWindow_or (serve : ReqId → WindowId → Served) :
    (withWindow f s serve).1 = s
      ∨ ∃ w, frameWellFormed f = true ∧ s.matchWindow (frameRequester f) (frameLinkPage f) = some w
        ∧ withWindow f s serve = serve (frameRequester f) w := by
  have hor : (withWindow f s serve).1 = s ∨ frameWellFormed f = true ∧ withWindow f s serve = _ := withRequest_or _
  rcases hor with h | ⟨hf, h⟩
  · exact .inl h
  · cases hw : s.matchWindow (frameRequester f) (frameLinkPage f) with
    | none => exact .inl (by rw [h, hw]; rfl)
    | some w => exact .inr ⟨w, hf, rfl, by rw [h, hw]⟩

/-- A management operation leaves the state, or runs its own rule. -/
theorem serveMgmt_or (size : Nat) (always : Bool) (rule : ReqId → List Byte → State → Answer) :
    (serveMgmt size always rule f s).1 = s
      ∨ (serveMgmt size always rule f s).1 = (rule (frameRequester f) (frameOperand f) s).1 := by
  unfold serveMgmt withManager
  simp only
  split
  next => exact .inl rfl
  next =>
    split
    next => exact .inl rfl
    next =>
      split
      next => exact .inl rfl
      next =>
        split
        next => exact .inl rfl
        next => exact .inr rfl

/-- The entry a request matches is valid. -/
theorem valid_of_matchWindow {q : ReqId} {page : Nat} {w : WindowId} (h : s.matchWindow q page = some w) :
    (s.window w).valid = true := by
  have := List.find?_some h
  simp only [WindowEntry.matches, Bool.and_eq_true] at this
  exact this.1.1.1

/-- The READ of a window with enough room on the page: an overlay hit, a deferred read, or BUSY. -/
theorem work_serveRead {p p' : PortId} (hc : takingCommand p f = .read p') : Work s (.read p') (serveRead f s).1 := by
  rcases withWindow_or (resolvedRead f s) with h | ⟨w, hf, hw, h⟩
  · rw [serveRead, h]; exact .same _
  have hlen := lengthFits_of_wellFormed hf (requestKindOf_read hc)
  simp only [lengthFits, Bool.and_eq_true, decide_eq_true_eq] at hlen
  rw [serveRead, h]
  simp only [resolvedRead]
  split
  next => exact .same _
  next =>
    split
    next => exact .same _
    next hpage =>
      split
      next => exact .same _
      next hon =>
        simp only [State.readTable]
        split
        next => exact .overlayHit p'
        next hpart =>
          split
          next i hslot =>
            split
            next hroom =>
              exact .deferred p' i _ _ _ _ _ (frameRequester_ne_zero hf) (by simpa [State.windowOnline] using hon)
                (by simpa using hpart) hslot hroom hlen.1 (by simpa [Config.pageBytes] using hpage)
            next => exact .busy _
          next => exact .busy _

/-- The decoder's note changes the state of an accepted request only. -/
theorem noteUse_ack (w : WindowId) (t : State) (n : Nat) : (State.noteUse w (t, .ack n)).1 = t.used w := rfl

/-- A WRITE that passes its checks is merged into a buffer, old or new, or is answered BUSY. -/
theorem work_serveWrite {p p' : PortId} (hc : takingCommand p f = .write p') : Work s (.write p') (serveWrite f s).1 := by
  rcases withWindow_or (resolvedWrite f s) with h | ⟨w, hf, hw, h⟩
  · rw [serveWrite, h]; exact .same _
  have hlen := lengthFits_of_wellFormed hf (requestKindOf_write hc)
  simp only [lengthFits, Bool.and_eq_true, decide_eq_true_eq, beq_iff_eq] at hlen
  have hoffset : frameOffset f < 256 := Nat.mod_lt _ (by decide)
  have hbytes : acceptedBytes f ≠ [] := by
    rw [ne_eq, ← List.length_eq_zero_iff, acceptedBytes, List.length_take]
    simp only [Config.pageBytes]
    omega
  have hpage : frameOffset f + (acceptedBytes f).length ≤ 256 := by
    rw [acceptedBytes, List.length_take]
    simp only [Config.pageBytes]
    omega
  rw [serveWrite, h]
  simp only [resolvedWrite]
  split
  next => exact .same _
  next =>
    split
    next => exact .same _
    next hfits =>
      split
      next => exact .same _
      next hon =>
        have hgw : ∀ v, (if (s.window w).grantRequired = true then some w else none) = some v → s.grantOf v ≠ none := by
          intro v hv
          split at hv
          next hreq =>
            cases hv
            have hholder := (grantFits_iff s _ w).mp (by simpa using hfits) hreq
            intro hnone
            simp [State.holderOf, hnone] at hholder
          next => cases hv
        have hon' : (s.channel (s.window w).channel).state.online = true := by simpa [State.windowOnline] using hon
        have hq := frameRequester_ne_zero hf
        simp only [State.writePool]
        split
        next b hb => exact .merged p' b _ w _ _ _ _ _ hq hgw hon' hbytes hpage hb
        next hnone =>
          split
          next hlive =>
            split
            next b hfree => exact .opened p' b _ w _ _ _ _ _ hq hgw hon' hbytes hpage hnone hlive hfree
            next => exact .pressure p'
          next => exact .busy _

/-- A CLEAR that passes its checks joins the queue, or is refused. -/
theorem work_serveClear {p : PortId} : Work s (.clear p) (serveClear f s).1 := by
  rcases withWindow_or (resolvedClear f s) with h | ⟨w, hf, hw, h⟩
  · rw [serveClear, h]; exact .same _
  rw [serveClear, h]
  simp only [resolvedClear]
  split
  next => exact .same _
  next =>
    split
    next => exact .same _
    next =>
      split
      next => exact .same _
      next =>
        split
        next => exact .same _
        next hon =>
          simp only [State.clearChannel]
          split
          next => exact .same _
          next hlive =>
            split
            next hroom =>
              exact .cleared p _ w _ _ (frameRequester_ne_zero hf) (by simpa [State.windowOnline] using hon)
                (by simpa using hlive) hroom
            next => exact .busy _

/-- A COLLECT leaves the state, or frees a slot that is not FETCHING. -/
theorem work_serveCollect {p : PortId} : Work s (.collect p) (serveCollect f s).1 := by
  rcases withRequest_or (s := s) (fun q => s.collectTicket q (frameTicket f)) with h | ⟨-, h⟩
  · rw [serveCollect, h]; exact .same _
  rw [serveCollect, h]
  simp only [State.collectTicket]
  split
  next => exact .same _
  next i hi =>
    split
    next => exact .same _
    next x hx =>
      split
      next =>
        simp only
        split
        next => exact .same _
        next hf => exact .collected p i x hx (by simpa using hf)
      next => exact .same _

theorem work_serveGrant {p : PortId} : Work s (.grant p) (serveGrant f s).1 := by
  rcases withWindow_or (resolvedGrant f s) with h | ⟨w, hf, hw, h⟩
  · rw [serveGrant, h]; exact .same _
  rw [serveGrant, h]
  have hq := frameRequester_ne_zero hf
  have hv := valid_of_matchWindow hw
  simp only [resolvedGrant, State.takeGrant]
  split
  next => exact .same _
  next =>
    split
    next => exact .same _
    next hreq =>
      have hreq' : (s.window w).grantRequired = true := by simpa using hreq
      split
      next => exact .granted p w _ hq hv hreq'
      next =>
        split
        next => exact .granted p w _ hq hv hreq'
        next => exact .same _

theorem work_serveRelease {p : PortId} : Work s (.release p) (serveRelease f s).1 := by
  rcases withWindow_or (resolvedRelease f s) with h | ⟨w, hf, hw, h⟩
  · rw [serveRelease, h]; exact .same _
  rw [serveRelease, h]
  simp only [resolvedRelease, State.giveBack]
  split
  next => exact .released p w
  next => exact .same _

theorem work_serveFlush {p : PortId} : Work s (.flush p) (serveFlush f s).1 := by
  rcases withRequest_or (s := s) (fun q => s.flushPool q) with h | ⟨-, h⟩
  · rw [serveFlush, h]; exact .same _
  · rw [serveFlush, h]; exact .flushed p _

theorem work_serveFlushWithWait {p : PortId} : Work s (.flushWithWait p) (serveFlushWithWait f s).1 := by
  rcases withRequest_or (s := s) (fun q => s.flushWait q) with h | ⟨hf, h⟩
  · rw [serveFlushWithWait, h]; exact .same _
  rw [serveFlushWithWait, h]
  simp only [State.flushWait]
  split
  next => exact .same _
  next hcan =>
    split
    next => exact .same _
    next hsome =>
      split
      next i hslot =>
        exact .waited p i _ (frameRequester_ne_zero hf) (by simpa using hcan) (by simpa using hsome) hslot
      next => exact .busy _

end Services

/-! #### Each management rule -/

section Rules
variable {s : State} {op : List Byte} {q : ReqId} {p : PortId}

theorem work_windowLoadRule : Work s (.windowLoad p) (windowLoadRule q op s).1 := by
  simp only [windowLoadRule]
  split
  next => exact .same _
  next w e he =>
    split
    next => exact .same _
    next hov => exact .loaded p w e op he (by simpa using hov)

theorem work_windowClearRule : Work s (.windowClear p) (windowClearRule q op s).1 := by
  simp only [windowClearRule]
  split
  next => exact .same _
  next w _ =>
    split
    next => exact .windowCleared p w
    next => exact .same _

theorem work_windowReadRule : Work s (.windowRead p) (windowReadRule q op s).1 := by
  simp only [windowReadRule]
  split <;> exact .same _

theorem work_grantRevokeRule : Work s (.grantRevoke p) (grantRevokeRule q op s).1 := by
  simp only [grantRevokeRule]
  split
  next => exact .same _
  next w _ =>
    split
    next => exact .revoked p w
    next => exact .same _

theorem work_bufferReadRule : Work s (.bufferRead p) (bufferReadRule q op s).1 := by
  simp only [bufferReadRule]
  split <;> exact .same _

theorem work_bufferRetryRule : Work s (.bufferRetry p) (bufferRetryRule q op s).1 := by
  simp only [bufferRetryRule]
  split
  next => exact .same _
  next b _ =>
    split
    next => exact .same _
    next x hx =>
      split
      next h =>
        rw [Bool.and_eq_true] at h
        exact .retried p b x hx h.1 h.2
      next => exact .same _

theorem work_bufferDiscardRule : Work s (.bufferDiscard p) (bufferDiscardRule q op s).1 := by
  simp only [bufferDiscardRule]
  split
  next => exact .same _
  next b _ =>
    split
    next => exact .same _
    next x hx =>
      split
      next cause hp => exact .discarded p b x q cause hx hp
      all_goals exact .same _

theorem work_channelOfflineRule : Work s (.channelOffline p) (channelOfflineRule q op s).1 := by
  simp only [channelOfflineRule]
  split
  next => exact .same _
  next c _ => exact .wentOffline p c

theorem work_channelOnlineRule : Work s (.channelOnline p) (channelOnlineRule q op s).1 := by
  simp only [channelOnlineRule]
  split
  next => exact .same _
  next c _ =>
    split
    next hc => exact .cameOnline p c hc
    all_goals exact .same _

theorem work_eventsReadRule : Work s (.eventsRead p) (eventsReadRule q op s).1 := by
  simp only [eventsReadRule]
  split
  next => exact .removed p _
  next => exact .same _

theorem work_countersReadRule : Work s (.countersRead p) (countersReadRule q op s).1 := by
  simp only [countersReadRule]
  split <;> exact .same _

theorem work_paramSetRule : Work s (.paramSet p) (paramSetRule q op s).1 := by
  simp only [paramSetRule]
  split
  next => exact .same _
  next id _ =>
    split
    next => exact .same _
    next ps hps => exact .paramSet p id _ ps hps

theorem work_mgmtSetWriteRule : Work s (.mgmtSetWrite p) (mgmtSetWriteRule q op s).1 := by
  simp only [mgmtSetWriteRule]
  split
  next => exact .same _
  next h0 =>
    split
    next => exact .same _
    next hm => exact .managersSet p _ (by simpa using h0) (by simpa using hm)

theorem work_restartRule : Work s (.restart p) (restartRule q op s).1 := by
  simp only [restartRule]
  split
  next => exact .same _
  next hr => exact .restarted p q hr

/-- A management operation with such a rule. -/
theorem work_serveMgmt {i : Instr} {size : Nat} {always : Bool} {rule : ReqId → List Byte → State → Answer} {f : List Byte}
    (h : ∀ q op, Work s i (rule q op s).1) : Work s i (serveMgmt size always rule f s).1 := by
  rcases serveMgmt_or (f := f) (s := s) size always rule with h' | h'
  · rw [h']; exact .same _
  · rw [h']; exact h _ _

end Rules

/-- The service of the command's frame is one of the works of that command. -/
theorem work_of_service {i : Instr} {p p' : PortId} {serve : List Byte → State → Served} {f : List Byte} (s : State)
    (hi : serviceOf i = some (p, serve)) (hc : takingCommand p' f = i) : Work s i (serve f s).1 := by
  cases i <;> simp only [serviceOf, Option.some.injEq, Prod.mk.injEq, reduceCtorEq] at hi <;> obtain ⟨rfl, rfl⟩ := hi
  case read => exact work_serveRead hc
  case write => exact work_serveWrite hc
  case clear => exact work_serveClear
  case collect => exact work_serveCollect
  case grant => exact work_serveGrant
  case release => exact work_serveRelease
  case flush => exact work_serveFlush
  case flushWithWait => exact work_serveFlushWithWait
  case unknownFrameKind => exact .same _
  case unknownMgmtOperation =>
    unfold serveUnknownOperation withManager
    split
    next => exact .same _
    next => split <;> exact .same _
  case windowLoad => exact work_serveMgmt fun _ _ => work_windowLoadRule
  case windowClear => exact work_serveMgmt fun _ _ => work_windowClearRule
  case windowRead => exact work_serveMgmt fun _ _ => work_windowReadRule
  case grantRevoke => exact work_serveMgmt fun _ _ => work_grantRevokeRule
  case bufferRead => exact work_serveMgmt fun _ _ => work_bufferReadRule
  case bufferRetry => exact work_serveMgmt fun _ _ => work_bufferRetryRule
  case bufferDiscard => exact work_serveMgmt fun _ _ => work_bufferDiscardRule
  case sealAll => exact work_serveMgmt fun _ _ => .sealedAll _
  case channelOffline => exact work_serveMgmt fun _ _ => work_channelOfflineRule
  case channelOnline => exact work_serveMgmt fun _ _ => work_channelOnlineRule
  case eventsRead => exact work_serveMgmt fun _ _ => work_eventsReadRule
  case countersRead => exact work_serveMgmt fun _ _ => work_countersReadRule
  case countersClear => exact work_serveMgmt fun _ _ => .zeroed _
  case paramSet => exact work_serveMgmt fun _ _ => work_paramSetRule
  case paramRead => exact work_serveMgmt fun _ _ => .same _
  case mgmtSetWrite => exact work_serveMgmt fun _ _ => work_mgmtSetWriteRule
  case statusRead => exact work_serveMgmt fun _ _ => .same _
  case restart => exact work_serveMgmt fun _ _ => work_restartRule

end Sys2Proof.Machine

/-! ### What commands leave unchanged -/

namespace Sys2Proof.Machine

/-- t is s but for the ports and the notice state. -/
abbrev PortsOnly (s t : State) : Prop := t = { s with lp0 := t.lp0, lp1 := t.lp1, notice := t.notice }

section PortsOnly
variable {s t u : State}

theorem PortsOnly.trans (h : PortsOnly s t) (k : PortsOnly t u) : PortsOnly s u := by
  rw [PortsOnly, k, h]

theorem portsOnly_setPort (s : State) (p : PortId) (q : Port) : PortsOnly s (s.setPort p q) := by cases p <;> rfl

theorem portsOnly_beginTaking (s : State) (p : PortId) : PortsOnly s (s.beginTaking p) := portsOnly_setPort ..

theorem portsOnly_respond (s : State) (p : PortId) (f : List Byte) (body : Body) : PortsOnly s (s.respond p f body) :=
  portsOnly_setPort ..

/-- A waiting notice is placed on its port, or nothing happens. -/
theorem placeNotice_or (s : State) :
    s.placeNotice = s
      ∨ ∃ q p, s.notice = .pending ∧ s.params.noticeTarget = some (q, p) ∧ (s.port p).hasPlace = true
        ∧ s.placeNotice = { s.setPort p ((s.port p).place (s.noticeFrame q)) with notice := .sent } := by
  unfold State.placeNotice
  split
  next q p hn ht =>
    split
    next hp => exact .inr ⟨q, p, hn, ht, hp, rfl⟩
    next => exact .inl rfl
  next => exact .inl rfl

theorem portsOnly_placeNotice (s : State) : PortsOnly s s.placeNotice := by
  rcases placeNotice_or s with h | ⟨q, p, -, -, -, h⟩
  · rw [h]
  · rw [h]
    cases p <;> rfl

theorem portsOnly_afterTaking (p : PortId) (f : List Byte) (served : Served) :
    PortsOnly served.1 (afterTaking p f served) := (portsOnly_respond ..).trans (portsOnly_placeNotice _)

end PortsOnly

/-- t is s but for the pool, the slots, the channels, the grants, the two counters of openings and tickets and the part-wide
counters: what a data request works on (R4). -/
structure DataOnly (s t : State) : Prop where
  resetAsserted : t.resetAsserted = s.resetAsserted
  windows : t.windows = s.windows
  lp0 : t.lp0 = s.lp0
  lp1 : t.lp1 = s.lp1
  managers : t.managers = s.managers
  params : t.params = s.params
  restart : t.restart = s.restart
  timeBase : t.timeBase = s.timeBase
  log : t.log = s.log
  sequence : t.sequence = s.sequence
  overflow : t.overflow = s.overflow
  notice : t.notice = s.notice
  store0 : t.store0 = s.store0
  store1 : t.store1 = s.store1
  pending : t.pending = s.pending

section DataOnly
variable {s t u : State}

theorem DataOnly.refl (s : State) : DataOnly s s := by constructor <;> rfl

theorem DataOnly.trans (h : DataOnly s t) (k : DataOnly t u) : DataOnly s u where
  resetAsserted := k.resetAsserted.trans h.resetAsserted
  windows := k.windows.trans h.windows
  lp0 := k.lp0.trans h.lp0
  lp1 := k.lp1.trans h.lp1
  managers := k.managers.trans h.managers
  params := k.params.trans h.params
  restart := k.restart.trans h.restart
  timeBase := k.timeBase.trans h.timeBase
  log := k.log.trans h.log
  sequence := k.sequence.trans h.sequence
  overflow := k.overflow.trans h.overflow
  notice := k.notice.trans h.notice
  store0 := k.store0.trans h.store0
  store1 := k.store1.trans h.store1
  pending := k.pending.trans h.pending

theorem DataOnly.port (h : DataOnly s t) (p : PortId) : t.port p = s.port p := by
  cases p
  · exact h.lp0
  · exact h.lp1

theorem WorkOnly.dataOnly (h : WorkOnly s t) : DataOnly s t where
  resetAsserted := h.resetAsserted
  windows := h.windows
  lp0 := h.lp0
  lp1 := h.lp1
  managers := h.managers
  params := h.params
  restart := h.restart
  timeBase := h.timeBase
  log := h.log
  sequence := h.sequence
  overflow := h.overflow
  notice := h.notice
  store0 := h.store0
  store1 := h.store1
  pending := h.pending

theorem dataOnly_setCounters (s : State) (k : PartCounters) : DataOnly s (s.setCounters k) := by constructor <;> rfl

theorem dataOnly_setGrant (s : State) (w : WindowId) (g : Option Grant) : DataOnly s (s.setGrant w g) := by
  constructor <;> rfl

theorem dataOnly_allocate (s : State) (i : SlotId) (q : ReqId) (k : SlotWork) : DataOnly s (s.allocate i q k) := by
  constructor <;> rfl

theorem dataOnly_openBuffer (s : State) (b : BufferId) (c : ChannelId) (pg : BitVec 16) :
    DataOnly s (s.openBuffer b c pg) := by
  constructor <;> rfl

theorem workOnly_mergeInto (s : State) (b : BufferId) (q : ReqId) (gw : Option WindowId) (o : Nat) (bytes : List Byte) :
    WorkOnly s (s.mergeInto b q gw o bytes) := by
  unfold State.mergeInto
  simp only
  split
  next => exact (workOnly_modifyBuffer ..).trans (workOnly_sealBuffer ..)
  next => exact workOnly_modifyBuffer ..

theorem workOnly_pressureSeal (s : State) : WorkOnly s s.pressureSeal := by
  unfold State.pressureSeal
  split
  next => exact workOnly_sealBuffer ..
  next => exact WorkOnly.refl s

theorem dataOnly_used (s : State) (w : WindowId) : DataOnly s (s.used w) := by
  unfold State.used State.useGrant
  split
  next =>
    split
    next => exact dataOnly_setGrant ..
    next => exact DataOnly.refl s
  next => exact DataOnly.refl s

theorem dataOnly_endGrant (s : State) (w : WindowId) : DataOnly s (s.endGrant w) :=
  (dataOnly_setGrant ..).trans (workOnly_endGrant ..).dataOnly

/-- The commands that take a data request, or a frame of no request kind. -/
def dataCommands (p : PortId) : List Instr :=
  [.unknownFrameKind p, .read p, .write p, .clear p, .collect p, .grant p, .release p, .flush p, .flushWithWait p]

/-- A data request works on pool, slots, channels, grants and counters alone (R4). -/
theorem Work.dataOnly {i : Instr} {p : PortId} (h : Work s i t) (hi : i ∈ dataCommands p) : DataOnly s t := by
  cases h with
  | same => exact DataOnly.refl s
  | busy | overlayHit => exact dataOnly_setCounters ..
  | deferred =>
    exact ((dataOnly_allocate ..).trans (workOnly_appendOp ..).dataOnly).trans (dataOnly_setCounters ..)
  | merged => exact (workOnly_mergeInto ..).dataOnly.trans (dataOnly_used ..)
  | opened => exact ((dataOnly_openBuffer ..).trans (workOnly_mergeInto ..).dataOnly).trans (dataOnly_used ..)
  | pressure => exact (workOnly_pressureSeal s).dataOnly.trans (dataOnly_setCounters ..)
  | cleared => exact (workOnly_appendOp ..).dataOnly.trans (dataOnly_used ..)
  | collected => exact (workOnly_setSlot ..).dataOnly
  | granted => exact dataOnly_setGrant ..
  | released => exact dataOnly_endGrant ..
  | flushed => exact (workOnly_sealAllOf ..).dataOnly
  | waited => exact (workOnly_sealAllOf ..).dataOnly.trans (dataOnly_allocate ..)
  | _ => simp [dataCommands] at hi

end DataOnly

/-! #### The queue of waiting commands and the stores -/

/-- The stores and the queue of waiting commands, which no service and hardly an event touches. -/
structure KeepsStores (s t : State) : Prop where
  store0 : t.store0 = s.store0
  store1 : t.store1 = s.store1
  pending : t.pending = s.pending

section KeepsStores
variable {s t u : State}

theorem KeepsStores.refl (s : State) : KeepsStores s s := ⟨rfl, rfl, rfl⟩

theorem KeepsStores.trans (h : KeepsStores s t) (k : KeepsStores t u) : KeepsStores s u :=
  ⟨k.store0.trans h.store0, k.store1.trans h.store1, k.pending.trans h.pending⟩

/-- The same in the order in which the last change is named first. -/
theorem KeepsStores.after (k : KeepsStores t u) (h : KeepsStores s t) : KeepsStores s u := h.trans k

theorem keepsStores_elapse (n : Micros) (s : State) : KeepsStores s (s.elapse n) := ⟨rfl, rfl, rfl⟩

theorem WorkOnly.keepsStores (h : WorkOnly s t) : KeepsStores s t := ⟨h.store0, h.store1, h.pending⟩

theorem DataOnly.keepsStores (h : DataOnly s t) : KeepsStores s t := ⟨h.store0, h.store1, h.pending⟩

theorem Inside.keepsStores (h : Inside s t) (k : SameStores s t) : KeepsStores s t := ⟨k.store0, k.store1, h.pending⟩

theorem PortsOnly.keepsStores (h : PortsOnly s t) : KeepsStores s t := by rw [h]; exact ⟨rfl, rfl, rfl⟩

theorem keepsStores_append (e : Event) (s : State) : KeepsStores s (s.append e) :=
  (inside_append e s).keepsStores (sameStores_append e s)

theorem keepsStores_offlineEntry (s : State) (c : ChannelId) (cause : OfflineCause) :
    KeepsStores s (s.offlineEntry c cause) := (inside_offlineEntry ..).keepsStores (sameStores_offlineEntry ..)

theorem keepsStores_revokeGrant (s : State) (w : WindowId) (cause : RevokeCause) :
    KeepsStores s (s.revokeGrant w cause) := by
  unfold State.revokeGrant
  split
  next => exact (dataOnly_endGrant ..).keepsStores.trans (keepsStores_append ..)
  next => exact .refl s

theorem workOnly_returnSealed (s : State) (b : BufferId) : WorkOnly s (s.returnSealed b) := by
  unfold State.returnSealed
  split
  next => exact workOnly_listSealed ..
  next => exact .refl s

theorem workOnly_retryBuffer (s : State) (b : BufferId) (x : Buffer) : WorkOnly s (s.retryBuffer b x) :=
  ((workOnly_setBuffer s b _).trans (workOnly_sealList _ _)).trans (workOnly_tryEnqueue ..)

theorem keepsStores_bringOnline (s : State) (c : ChannelId) : KeepsStores s (s.bringOnline c) :=
  (((workOnly_setChannel s c _).trans (workOnly_foldl _ workOnly_returnSealed _ _)).trans
    (workOnly_tryEnqueue ..)).keepsStores.trans (keepsStores_append ..)

theorem keepsStores_requestOffline (s : State) (c : ChannelId) : KeepsStores s (s.requestOffline c) := by
  unfold State.requestOffline
  split
  next => exact keepsStores_offlineEntry ..
  next => exact (workOnly_setChannel ..).keepsStores
  all_goals exact .refl s

/-- A pending restart completes, or nothing happens (R152). -/
theorem settleRestart_or (s : State) :
    s.settleRestart = s ∨ ∃ q, s.restart = some q ∧ s.still = true ∧ s.settleRestart = s.completeRestart q := by
  unfold State.settleRestart
  split
  next q hq =>
    split
    next hs => exact .inr ⟨q, hq, hs, rfl⟩
    next => exact .inl rfl
  next => exact .inl rfl

theorem keepsStores_completeRestart (s : State) (q : ReqId) : KeepsStores s (s.completeRestart q) := by
  refine KeepsStores.trans ?_ (keepsStores_append ..)
  exact ⟨rfl, rfl, rfl⟩

theorem keepsStores_settleRestart (s : State) : KeepsStores s s.settleRestart := by
  rcases settleRestart_or s with h | ⟨q, -, -, h⟩
  · rw [h]; exact .refl s
  · rw [h]; exact keepsStores_completeRestart ..

theorem keepsStores_failedAttempt (s : State) (c : ChannelId) (op : Op) : KeepsStores s (s.failedAttempt c op) :=
  (inside_failedAttempt ..).keepsStores (sameStores_failedAttempt ..)

/-- No service touches the stores or the queue of waiting commands. -/
theorem Work.keepsStores {i : Instr} (h : Work s i t) : KeepsStores s t := by
  have hwork := h
  cases h with
  | same => exact .refl s
  | busy | overlayHit => exact (dataOnly_setCounters ..).keepsStores
  | deferred p | merged p | opened p | pressure p | cleared p | collected p | granted p | released p | flushed p | waited p =>
    exact (hwork.dataOnly (p := p) (by simp [dataCommands])).keepsStores
  | loaded | windowCleared => exact (keepsStores_revokeGrant ..).after ⟨rfl, rfl, rfl⟩
  | revoked => exact keepsStores_revokeGrant ..
  | retried => exact (workOnly_retryBuffer ..).keepsStores
  | discarded =>
    refine (workOnly_tryEnqueue ..).keepsStores.after ?_
    exact ((inside_releaseBuffer ..).keepsStores (sameStores_releaseBuffer ..)).after (keepsStores_append ..)
  | sealedAll => exact (workOnly_sealAllOf ..).keepsStores
  | wentOffline => exact keepsStores_requestOffline ..
  | cameOnline => exact keepsStores_bringOnline ..
  | removed => unfold State.removeRecords; split <;> exact ⟨rfl, rfl, rfl⟩
  | zeroed | managersSet => exact ⟨rfl, rfl, rfl⟩
  | paramSet =>
    split
    next => exact ⟨rfl, rfl, rfl⟩
    next => unfold State.retarget; split <;> exact ⟨rfl, rfl, rfl⟩
  | restarted => exact (keepsStores_settleRestart _).after ⟨rfl, rfl, rfl⟩

/-- An arrival changes its port, and an overrun is recorded. -/
theorem arrive_or (p : PortId) (f : List Byte) (s : State) :
    (∃ q, s.arrive p f = s.setPort p q) ∨ ∃ q, s.arrive p f = (s.setPort p q).append (.frameOverrun p) := by
  simp only [State.arrive]
  split
  next => exact .inr ⟨_, rfl⟩
  next =>
    split
    next => exact .inl ⟨_, rfl⟩
    next => split <;> exact .inl ⟨_, rfl⟩

theorem takeCompletion_or (s : State) (c : ChannelId) (op : Op) (status : CompletionStatus) (bytes : List Byte) :
    s.takeCompletion c op status bytes = s.failedAttempt c op
      ∨ status = .ok ∧ op.kind.formFits bytes = true ∧ s.takeCompletion c op status bytes = s.headSucceeded c op bytes := by
  cases status with
  | fail => exact .inl rfl
  | ok =>
    simp only [State.takeCompletion]
    split
    next hf => exact .inr ⟨trivial, hf, rfl⟩
    next => exact .inl rfl

/-- An OK completion that is taken, in the words of the statements about stores and bytes. -/
def TakesOk (s : State) (i : Instr) : Prop :=
  ∃ c bytes op, i = .storeCompletion c (s.channel c).number .ok bytes ∧ (s.channel c).inProgress = some op
    ∧ op.kind.formFits bytes = true

/-- The events other than an OK completion that is taken leave the stores; every event leaves the waiting commands. -/
theorem Effect.keepsStores {i : Instr} (h : Effect s i t) (hno : ¬ TakesOk s i) : KeepsStores s t := by
  cases h with
  | nothing => exact .refl s
  | arrival p f =>
    rcases arrive_or p f s with ⟨q, hq⟩ | ⟨q, hq⟩
    · rw [hq]; exact (portsOnly_setPort ..).keepsStores
    · rw [hq]; exact (portsOnly_setPort ..).keepsStores.trans (keepsStores_append ..)
  | linkUp | linkDown => exact (portsOnly_setPort ..).keepsStores.trans (keepsStores_append ..)
  | transmissionEnd => exact (portsOnly_setPort ..).keepsStores
  | completion c status bytes op hop =>
    refine KeepsStores.trans ?_ (keepsStores_settleRestart _)
    rcases takeCompletion_or s c op status bytes with h | ⟨rfl, hf, -⟩
    · rw [h]; exact keepsStores_failedAttempt ..
    · exact absurd ⟨c, bytes, op, rfl, hop, hf⟩ hno
  | late => exact (dataOnly_setCounters ..).keepsStores.trans (keepsStores_append ..)
  | timeout =>
    exact (keepsStores_settleRestart _).after ((keepsStores_failedAttempt ..).after
      ((dataOnly_setCounters ..).keepsStores.after (keepsStores_elapse ..)))
  | idleExpiry | limitExpiry => exact (workOnly_sealBuffer ..).keepsStores.after (keepsStores_elapse ..)
  | holdExpiry => exact (keepsStores_append ..).after ⟨rfl, rfl, rfl⟩
  | grantExpiry =>
    exact (keepsStores_append ..).after ((dataOnly_endGrant ..).keepsStores.after (keepsStores_elapse ..))

theorem settleRestart_pending (s : State) : s.settleRestart.pending = s.pending := (keepsStores_settleRestart s).pending

theorem Effect.pending {i : Instr} (h : Effect s i t) : t.pending = s.pending := by
  by_cases hok : TakesOk s i
  · obtain ⟨c, bytes, op, rfl, hop, hf⟩ := hok
    cases h with
    | nothing => rfl
    | completion =>
      rename_i op' _
      rw [settleRestart_pending]
      rcases takeCompletion_or s c op' .ok bytes with h | ⟨-, -, h⟩
      · rw [h]; exact (keepsStores_failedAttempt ..).pending
      · rw [h]; exact (inside_headSucceeded ..).pending
    | late => exact ((dataOnly_setCounters ..).keepsStores.trans (keepsStores_append ..)).pending
  · exact (h.keepsStores hok).pending

/-- A frame that is taken: its service, then the response. -/
theorem keepsStores_taken {i : Instr} {p : PortId} {serve : List Byte → State → Served} {f : List Byte}
    (hi : serviceOf i = some (p, serve)) (ho : s.offers p i f) :
    KeepsStores s (afterTaking p f (serve f (s.beginTaking p))) := by
  obtain ⟨-, -, -, -, hc⟩ := ho
  exact ((portsOnly_beginTaking ..).keepsStores.trans (work_of_service _ hi hc).keepsStores).trans
    (portsOnly_afterTaking ..).keepsStores

end KeepsStores

/-- Settles O3: the answer is one of `exec_answers`, and in each the waiting commands stay. -/
theorem everyCommandAnswersNext : Obligations.EveryCommandAnswersNext := by
  intro i s
  obtain ⟨t, ht, ha⟩ := exec_answers i s
  refine ⟨t, ht, ?_⟩
  cases ha with
  | nothing | pinReset | deasserted => rfl
  | taken p serve f hi ho => exact (keepsStores_taken hi ho).pending
  | event u hs hu => exact (portsOnly_placeNotice u).keepsStores.pending.trans hu.pending

/-- Settles O59: no service and no other event writes a store, and pin reset leaves them. -/
theorem storesChangeOnlyByCompletions : Obligations.StoresChangeOnlyByCompletions := by
  intro s t i ht hno
  have hnot : ¬ TakesOk s i := by
    rintro ⟨c, bytes, op, hi, hop, hf⟩
    rw [hno c bytes op hi hop] at hf
    cases hf
  have hk : KeepsStores s t := by
    cases answers_of_exec ht with
    | nothing => exact .refl s
    | taken p serve f hi ho => exact keepsStores_taken hi ho
    | event u hs hu => exact (hu.keepsStores hnot).trans (portsOnly_placeNotice u).keepsStores
    | pinReset | deasserted => exact ⟨rfl, rfl, rfl⟩
  exact ⟨hk.store0, hk.store1⟩

/-! #### What a data request leaves -/

/-- Every data command takes a frame. -/
theorem serviceOf_dataCommand {i : Instr} {p : PortId} (h : i ∈ dataCommands p) : ∃ serve, serviceOf i = some (p, serve) := by
  simp only [dataCommands, List.mem_cons, List.not_mem_nil, or_false] at h
  rcases h with rfl | rfl | rfl | rfl | rfl | rfl | rfl | rfl | rfl <;> exact ⟨_, rfl⟩

/-- A port that shows the same places as before, on which no notice waits for a place, is left by the notice rule. -/
theorem placeNotice_port {s : State} {r : PortId}
    (h : s.notice = .pending → ∀ q, s.params.noticeTarget = some (q, r) → (s.port r).hasPlace = false) :
    s.placeNotice.port r = s.port r := by
  rcases placeNotice_or s with hs | ⟨q, p, hn, ht, hp, hs⟩
  · rw [hs]
  · have hr : r ≠ p := by
      rintro rfl
      rw [h hn q ht] at hp
      cases hp
    rw [hs]
    exact (State.setPort_port s p _ r).trans (if_neg hr)

theorem noticeWaits_iff (s : State) :
    s.noticeWaits = true ↔ ∀ q p, s.notice = .pending → s.params.noticeTarget = some (q, p) → (s.port p).hasPlace = false := by
  unfold State.noticeWaits
  split
  next q p hn ht => simp [hn, ht]
  next h => exact ⟨fun _ q p hn ht => absurd ht (h q p hn), fun _ => rfl⟩

/-- Settles O60: the service is a work of a data command, steps 1, 2, 4 and 5 of the taking touch the port alone, and a notice that
waits finds no place on the other port. -/
theorem dataRequestsLeaveTheRest : Obligations.DataRequestsLeaveTheRest := by
  intro s p i hw hi
  obtain ⟨serve, hserve⟩ := serviceOf_dataCommand hi
  rw [exec_service hserve]
  rcases takeHead_or s p i serve with h | ⟨f, ho, h⟩
  · exact ⟨s, h, rfl, rfl, rfl, rfl, rfl, rfl, rfl, rfl, rfl, rfl, rfl, rfl, fun _ _ => rfl⟩
  refine ⟨_, h, ?_⟩
  obtain ⟨-, -, -, -, hc⟩ := ho
  have hd : DataOnly (s.beginTaking p) (serve f (s.beginTaking p)).1 := (work_of_service _ hserve hc).dataOnly hi
  have ha := portsOnly_afterTaking p f (serve f (s.beginTaking p))
  have hport (r : PortId) (hr : r ≠ p) : (afterTaking p f (serve f (s.beginTaking p))).port r = s.port r := by
    have hsame : ((serve f (s.beginTaking p)).1.respond p f (serve f (s.beginTaking p)).2).port r = s.port r := by
      rw [State.respond, State.setPort_port, if_neg hr, hd.port, State.beginTaking, State.setPort_port, if_neg hr]
    rw [afterTaking, placeNotice_port, hsame]
    intro hn q ht
    rw [hsame]
    have hr' := portsOnly_respond (serve f (s.beginTaking p)).1 p f (serve f (s.beginTaking p)).2
    refine (noticeWaits_iff s).mp hw q r ?_ ?_
    · rw [← hn, State.respond, State.setPort_notice, hd.notice, beginTaking_notice]
    · rw [← ht, State.respond, State.setPort_params, hd.params, beginTaking_params]
  have hb := portsOnly_beginTaking s p
  refine ⟨?_, ?_, ?_, ?_, ?_, ?_, ?_, ?_, ?_, ?_, ?_, ?_, hport⟩ <;> rw [ha]
  · exact hd.resetAsserted.trans (by rw [hb])
  · exact hd.windows.trans (by rw [hb])
  · exact hd.managers.trans (by rw [hb])
  · exact hd.params.trans (by rw [hb])
  · exact hd.restart.trans (by rw [hb])
  · exact hd.timeBase.trans (by rw [hb])
  · exact hd.log.trans (by rw [hb])
  · exact hd.sequence.trans (by rw [hb])
  · exact hd.overflow.trans (by rw [hb])
  · exact hd.store0.trans (by rw [hb])
  · exact hd.store1.trans (by rw [hb])
  · exact hd.pending.trans (by rw [hb])

end Sys2Proof.Machine

/-! ### The event log and notice laws (R159 to R162) -/

namespace Sys2Proof.Machine

/-- The laws of log and notice that hold inside an event too: a waiting notice is placed only at the event's end. -/
abbrev LogLaw (s : State) : Prop :=
  s.logLawful ∧ (s.notice ≠ .armed → s.params.noticeTarget ≠ none ∧ s.log ≠ [])

/-- Log, notice state and parameters are as they were. -/
structure SameLog (s t : State) : Prop where
  params : t.params = s.params
  log : t.log = s.log
  sequence : t.sequence = s.sequence
  overflow : t.overflow = s.overflow
  notice : t.notice = s.notice

section LogLaw
variable {s t u : State}

theorem SameLog.logLaw (h : SameLog s t) (hs : LogLaw s) : LogLaw t := by
  simpa only [LogLaw, State.logLawful, h.params, h.log, h.sequence, h.overflow, h.notice] using hs

theorem DataOnly.sameLog (h : DataOnly s t) : SameLog s t := ⟨h.params, h.log, h.sequence, h.overflow, h.notice⟩

theorem WorkOnly.logLaw (h : WorkOnly s t) : LogLaw s → LogLaw t := h.dataOnly.sameLog.logLaw

theorem logLaw_setPort (p : PortId) (q : Port) (h : LogLaw s) : LogLaw (s.setPort p q) :=
  SameLog.logLaw (by cases p <;> constructor <;> rfl) h

/-- The sequence numbers of a log of n records below a counter (R159). -/
def sequencesBelow (next : BitVec 16) (n : Nat) : List (BitVec 16) :=
  (List.range n).map fun i => next - BitVec.ofNat 16 (n - i)

theorem sequencesBelow_succ (next : BitVec 16) (n : Nat) :
    sequencesBelow (next + 1) (n + 1) = sequencesBelow next n ++ [next] := by
  rw [sequencesBelow, List.range_succ, List.map_append]
  congr 1
  · refine List.map_congr_left fun i hi => ?_
    have hi' : i < n := List.mem_range.mp hi
    rw [show n + 1 - i = (n - i) + 1 by omega, BitVec.ofNat_add]
    bv_omega
  · simp only [List.map_cons, List.map_nil, List.cons.injEq, and_true]
    rw [show n + 1 - n = 1 by omega]
    bv_omega

theorem drop_sequencesBelow (next : BitVec 16) (n k : Nat) :
    (sequencesBelow next n).drop k = sequencesBelow next (n - k) := by
  apply List.ext_getElem
  · simp [sequencesBelow]
  · intro i hi hj
    simp only [sequencesBelow, List.length_drop, List.length_map, List.length_range] at hi
    simp only [sequencesBelow, List.getElem_drop, List.getElem_map, List.getElem_range]
    rw [show n - (k + i) = n - k - i by omega]

/-- An append keeps the laws: the record kept bears the counter's number, and a notice becomes PENDING beside a record (R159, R161). -/
theorem logLaw_append (e : Event) (h : LogLaw s) : LogLaw (s.append e) := by
  obtain ⟨⟨hlen, hseq, hover⟩, hnotice⟩ := h
  simp only [State.append]
  by_cases hroom : s.log.length < Config.logPlaces
  · have hlog : (s.log ++ [(⟨s.sequence, s.timeBase, e⟩ : EventRecord)]).map EventRecord.sequence
        = sequencesBelow (s.sequence + 1) (s.log ++ [(⟨s.sequence, s.timeBase, e⟩ : EventRecord)]).length := by
      rw [List.length_append, List.length_singleton, sequencesBelow_succ, List.map_append, hseq]
      rfl
    rw [if_pos hroom]
    split
    next ht => exact ⟨⟨by simpa using hroom, hlog, by simp⟩, by simp [ht]⟩
    next => exact ⟨⟨by simpa using hroom, hlog, by simp⟩, fun hn => ⟨(hnotice hn).1, by simp⟩⟩
  · have hne : s.log ≠ [] := by
      rintro h
      simp [h] at hroom
    rw [if_neg hroom]
    split
    next ht => exact ⟨⟨hlen, hseq, fun h => absurd h hne⟩, by simp [ht, hne]⟩
    next => exact ⟨⟨hlen, hseq, fun h => absurd h hne⟩, hnotice⟩

theorem logLaw_foldl {α : Type} (f : State → α → State) (hf : ∀ s a, LogLaw s → LogLaw (f s a)) (as : List α) (s : State) :
    LogLaw s → LogLaw (as.foldl f s) := by
  induction as generalizing s with
  | nil => exact id
  | cons a as ih => exact fun h => ih _ (hf s a h)

theorem logLaw_setCounters (k : PartCounters) (h : LogLaw s) : LogLaw (s.setCounters k) :=
  (dataOnly_setCounters s k).sameLog.logLaw h

theorem logLaw_endGrant (w : WindowId) (h : LogLaw s) : LogLaw (s.endGrant w) := (dataOnly_endGrant s w).sameLog.logLaw h

theorem logLaw_revokeGrant (w : WindowId) (cause : RevokeCause) (h : LogLaw s) : LogLaw (s.revokeGrant w cause) := by
  unfold State.revokeGrant
  split
  next => exact logLaw_append _ (logLaw_endGrant w h)
  next => exact h

theorem logLaw_opRemoved (c : ChannelId) (s : State) (op : Op) (h : LogLaw s) : LogLaw (State.opRemoved c s op) := by
  unfold State.opRemoved
  split
  next => exact (workOnly_fetchRemoved ..).logLaw h
  next => exact (workOnly_holdBuffer ..).logLaw h
  next => exact logLaw_append _ h

theorem logLaw_offlineEntry (c : ChannelId) (cause : OfflineCause) (h : LogLaw s) : LogLaw (s.offlineEntry c cause) :=
  logLaw_append _ ((workOnly_setChannel ..).logLaw
    ((workOnly_holdSealed ..).logLaw (logLaw_foldl _ (logLaw_opRemoved c) _ s h)))

theorem logLaw_requestOffline (c : ChannelId) (h : LogLaw s) : LogLaw (s.requestOffline c) := by
  unfold State.requestOffline
  split
  next => exact logLaw_offlineEntry c _ h
  next => exact (workOnly_setChannel ..).logLaw h
  all_goals exact h

theorem logLaw_bringOnline (c : ChannelId) (h : LogLaw s) : LogLaw (s.bringOnline c) :=
  logLaw_append _ (((workOnly_setChannel ..).trans (workOnly_foldl _ workOnly_returnSealed _ _) |>.trans
    (workOnly_tryEnqueue ..)).logLaw h)

theorem logLaw_completeRestart (q : ReqId) (h : LogLaw s) : LogLaw (s.completeRestart q) := by
  refine logLaw_append _ (SameLog.logLaw ?_ h)
  exact ⟨rfl, rfl, rfl, rfl, rfl⟩

theorem logLaw_settleRestart (h : LogLaw s) : LogLaw s.settleRestart := by
  rcases settleRestart_or s with hs | ⟨q, -, -, hs⟩
  · rwa [hs]
  · rw [hs]; exact logLaw_completeRestart q h

theorem logLaw_fetchFailed (c : ChannelId) (i : SlotId) (n : BitVec 8) (h : LogLaw s) : LogLaw (s.fetchFailed c i n) := by
  unfold State.fetchFailed
  split
  next =>
    split
    next => exact logLaw_append _ ((workOnly_setSlot ..).logLaw h)
    next => exact h
  next => exact h

theorem logLaw_opFailed (c : ChannelId) (k : OpKind) (n : BitVec 8) (h : LogLaw s) : LogLaw (s.opFailed c k n) := by
  unfold State.opFailed
  split
  next => exact logLaw_fetchFailed _ _ _ h
  next => exact logLaw_append _ ((workOnly_holdBuffer ..).logLaw h)
  next => exact logLaw_append _ h

theorem logLaw_releaseBuffer (b : BufferId) (h : LogLaw s) : LogLaw (s.releaseBuffer b) :=
  SameLog.logLaw ⟨rfl, rfl, rfl, rfl, rfl⟩ h

theorem logLaw_opSucceeded (c : ChannelId) (k : OpKind) (n : BitVec 8) (bytes : List Byte) (h : LogLaw s) :
    LogLaw (s.opSucceeded c k n bytes) := by
  have hstore (m : Cells) : LogLaw (s.setStore c m) := SameLog.logLaw (by cases c <;> constructor <;> rfl) h
  unfold State.opSucceeded
  simp only
  split
  next => exact (workOnly_fetchSucceeded ..).logLaw (hstore _)
  next =>
    exact logLaw_setCounters _ ((workOnly_mapSlots ..).logLaw (logLaw_releaseBuffer _ (hstore _)))
  next => exact hstore _

theorem logLaw_afterLeaving (c : ChannelId) (h : LogLaw s) : LogLaw (s.afterLeaving c) := by
  have htry : LogLaw (s.tryEnqueue c) := (workOnly_tryEnqueue s c).logLaw h
  unfold State.afterLeaving
  simp only
  split
  next =>
    split
    next => exact (workOnly_setChannel ..).logLaw htry
    next => exact (workOnly_startHead ..).logLaw htry
  next => exact logLaw_offlineEntry c _ htry
  all_goals exact htry

theorem logLaw_headFailedFinally (c : ChannelId) (op : Op) (h : LogLaw s) : LogLaw (s.headFailedFinally c op) :=
  logLaw_opFailed _ _ _ ((workOnly_setChannel ..).logLaw h)

theorem logLaw_noteFailure (c : ChannelId) (h : LogLaw s) : LogLaw (s.noteFailure c) :=
  logLaw_setCounters _ ((workOnly_setChannel ..).logLaw h)

theorem logLaw_failedAttempt (c : ChannelId) (op : Op) (h : LogLaw s) : LogLaw (s.failedAttempt c op) := by
  have hnoted := logLaw_noteFailure c h
  have hfinal := logLaw_headFailedFinally c op hnoted
  unfold State.failedAttempt
  split
  next => exact logLaw_offlineEntry c _ hfinal
  next =>
    split
    next => exact logLaw_afterLeaving c hfinal
    next =>
      split
      next => exact (workOnly_startHead ..).logLaw hnoted
      next => exact logLaw_afterLeaving c hfinal

theorem logLaw_takeCompletion (c : ChannelId) (op : Op) (status : CompletionStatus) (bytes : List Byte) (h : LogLaw s) :
    LogLaw (s.takeCompletion c op status bytes) := by
  rcases takeCompletion_or s c op status bytes with hs | ⟨-, -, hs⟩
  · rw [hs]; exact logLaw_failedAttempt c op h
  · rw [hs]; exact logLaw_afterLeaving c (logLaw_opSucceeded c _ _ _ ((workOnly_setChannel ..).logLaw h))

theorem logLaw_elapse (n : Micros) (h : LogLaw s) : LogLaw (s.elapse n) := SameLog.logLaw ⟨rfl, rfl, rfl, rfl, rfl⟩ h

/-- A log left empty by EVENTS_READ arms the notice and clears the overflow count (R160). -/
theorem logLaw_removeRecords (n : Nat) (h : LogLaw s) : LogLaw (s.removeRecords n) := by
  obtain ⟨⟨hlen, hseq, -⟩, hnotice⟩ := h
  by_cases hall : s.log.length ≤ n
  · rw [removeRecords_all hall]
    exact ⟨⟨Nat.zero_le _, rfl, fun _ => rfl⟩, fun hn => absurd rfl hn⟩
  · have hne : s.log.drop n ≠ [] := by simpa using hall
    rw [removeRecords_some (by omega)]
    refine ⟨⟨?_, ?_, fun h => absurd h hne⟩, fun hn => ⟨(hnotice hn).1, hne⟩⟩
    · simp only [List.length_drop]
      omega
    · rw [List.map_drop, hseq]
      exact (drop_sequencesBelow ..).trans (by rw [List.length_drop]; rfl)

/-- PARAM_SET keeps a notice state that fits its target (R161). -/
theorem logLaw_paramSet (ps : Params) (h : LogLaw s) :
    LogLaw (if ps.noticeTarget = s.params.noticeTarget then { s with params := ps } else { s with params := ps }.retarget) := by
  obtain ⟨hlog, hnotice⟩ := h
  split
  next ht => exact ⟨hlog, fun hn => ⟨by rw [ht]; exact (hnotice hn).1, (hnotice hn).2⟩⟩
  next =>
    cases ht : ps.noticeTarget with
    | none =>
      simp only [State.retarget, ht]
      exact ⟨hlog, fun hn => absurd rfl hn⟩
    | some target =>
      cases hempty : s.log with
      | nil =>
        simp only [State.retarget, ht, List.isEmpty_nil, if_true]
        exact ⟨by simpa only [State.logLawful, hempty] using hlog, fun hn => absurd rfl hn⟩
      | cons r rest =>
        simp only [State.retarget, ht, List.isEmpty_cons, Bool.false_eq_true, if_false]
        exact ⟨by simpa only [State.logLawful, hempty] using hlog, fun _ => ⟨by simp [ht], by simp⟩⟩

/-- Every service keeps the laws of log and notice. -/
theorem Work.logLaw {i : Instr} (hw : Work s i t) (h : LogLaw s) : LogLaw t := by
  have hwork := hw
  cases hw with
  | same => exact h
  | busy | overlayHit => exact logLaw_setCounters _ h
  | deferred p | merged p | opened p | pressure p | cleared p | collected p | granted p | released p | flushed p | waited p =>
    exact (hwork.dataOnly (p := p) (by simp [dataCommands])).sameLog.logLaw h
  | loaded | windowCleared => exact logLaw_revokeGrant _ _ (SameLog.logLaw ⟨rfl, rfl, rfl, rfl, rfl⟩ h)
  | revoked => exact logLaw_revokeGrant _ _ h
  | retried => exact (workOnly_retryBuffer ..).logLaw h
  | discarded =>
    exact (workOnly_tryEnqueue ..).logLaw (logLaw_releaseBuffer _ (logLaw_append _ h))
  | sealedAll => exact (workOnly_sealAllOf ..).logLaw h
  | wentOffline p c => exact logLaw_requestOffline c h
  | cameOnline p c => exact logLaw_bringOnline c h
  | removed p n => exact logLaw_removeRecords n h
  | zeroed | managersSet => exact h
  | paramSet p id v ps => exact logLaw_paramSet ps h
  | restarted =>
    refine logLaw_settleRestart (SameLog.logLaw ?_ h)
    exact ⟨rfl, rfl, rfl, rfl, rfl⟩

/-- Every event keeps the laws of log and notice. -/
theorem Effect.logLaw {i : Instr} (he : Effect s i t) (h : LogLaw s) : LogLaw t := by
  cases he with
  | nothing => exact h
  | arrival p f =>
    rcases arrive_or p f s with ⟨q, hq⟩ | ⟨q, hq⟩
    · rw [hq]; exact logLaw_setPort p q h
    · rw [hq]; exact logLaw_append _ (logLaw_setPort p q h)
  | linkUp | linkDown => exact logLaw_append _ (logLaw_setPort _ _ h)
  | transmissionEnd => exact logLaw_setPort _ _ h
  | completion => exact logLaw_settleRestart (logLaw_takeCompletion _ _ _ _ h)
  | late => exact logLaw_append _ (logLaw_setCounters _ h)
  | timeout =>
    exact logLaw_settleRestart (logLaw_failedAttempt _ _ (logLaw_setCounters _ (logLaw_elapse _ h)))
  | idleExpiry | limitExpiry => exact (workOnly_sealBuffer ..).logLaw (logLaw_elapse _ h)
  | holdExpiry => exact logLaw_append _ (logLaw_setCounters _ ((workOnly_setSlot ..).logLaw (logLaw_elapse _ h)))
  | grantExpiry => exact logLaw_append _ (logLaw_endGrant _ (logLaw_elapse _ h))

/-- The end of an event: a notice that stays PENDING finds no place, and a placed one is SENT (R134, R162). -/
theorem logLaw_placeNotice (h : LogLaw s) : LogLaw s.placeNotice ∧ s.placeNotice.noticeWaits = true := by
  rcases placeNotice_or s with hs | ⟨q, p, hn, ht, -, hs⟩
  · refine ⟨by rwa [hs], ?_⟩
    rw [hs, noticeWaits_iff]
    intro q p hn ht
    by_contra hp
    have hp' : (s.port p).hasPlace = true := by simpa using hp
    have hsent := congrArg State.notice hs
    simp [State.placeNotice, hn, ht, hp'] at hsent
  · rw [hs]
    refine ⟨⟨(logLaw_setPort p _ h).1, fun _ => ?_⟩, rfl⟩
    have hpair := (logLaw_setPort p ((s.port p).place (s.noticeFrame q)) h).2
    exact hpair (by simp [hn])

theorem noticeLawful_iff (s : State) : s.logLawful ∧ s.noticeLawful ↔ LogLaw s ∧ s.noticeWaits = true := by
  simp only [LogLaw, State.noticeLawful, and_assoc]

end LogLaw

/-! #### One step -/

/-- A step is one command on the queue's rest, or a microsecond. -/
theorem step_cases {s t : State} (h : step s = .next t) :
    (s.pending = [] ∧ t = s.idleStep) ∨ ∃ i rest, s.pending = i :: rest ∧ Answers { s with pending := rest } i t := by
  unfold step at h
  split at h
  next hp => cases h; exact .inl ⟨hp, rfl⟩
  next i rest hp => exact .inr ⟨i, rest, hp, answers_of_exec h⟩

theorem idleStep_or (s : State) : s.idleStep = s ∨ s.resetAsserted = false ∧ s.idleStep = s.elapse 1 := by
  unfold State.idleStep
  cases s.resetAsserted <;> simp

/-- Settles O54: the laws hold inside every service and event, and the end of each places the notice or finds no place. At the
deassertion the notice is ARMED, since RESET_N was asserted until then. -/
theorem everyStepKeepsTheLogLaws : Obligations.EveryStepKeepsTheLogLaws := by
  intro s t hlog hnotice hreset hstep
  obtain ⟨hl, hwaits⟩ := (noticeLawful_iff s).mp ⟨hlog, hnotice⟩
  rw [noticeLawful_iff]
  rcases step_cases hstep with ⟨-, rfl⟩ | ⟨i, rest, -, ha⟩
  · rcases idleStep_or s with h | ⟨-, h⟩
    · rw [h]; exact ⟨hl, hwaits⟩
    · rw [h]; exact ⟨logLaw_elapse 1 hl, hwaits⟩
  · cases ha with
    | nothing => exact ⟨hl, hwaits⟩
    | taken p serve f hi ho =>
      obtain ⟨-, -, -, -, hc⟩ := ho
      exact logLaw_placeNotice (logLaw_setPort _ _ ((work_of_service _ hi hc).logLaw (logLaw_setPort _ _ hl)))
    | event u _ hu => exact logLaw_placeNotice (hu.logLaw hl)
    | pinReset => exact ⟨⟨⟨Nat.zero_le _, rfl, fun _ => rfl⟩, fun hn => absurd rfl hn⟩, rfl⟩
    | deasserted mgid _ hs =>
      have harmed : s.notice = .armed := by rw [hreset hs]; rfl
      exact ⟨⟨hl.1, fun hn => absurd harmed hn⟩, by simp [State.noticeWaits, harmed]⟩

end Sys2Proof.Machine

/-! ### Management set, parameters, windows and grants (R1, R19, R111, R143, R145) -/

namespace Sys2Proof.Machine

/-- The four tables of the management unit, the window table and the grant table are in their ranges. -/
abbrev TablesLaw (s : State) : Prop := s.managersLawful ∧ s.paramsLawful ∧ s.windowsLawful ∧ s.grantsLawful

/-- Management set, parameters and windows are as they were, and no record has a holder it did not have. -/
structure KeepsTables (s t : State) : Prop where
  managers : t.managers = s.managers
  params : t.params = s.params
  windows : t.windows = s.windows
  holders : ∀ w, t.holderOf w = s.holderOf w ∨ t.holderOf w = none

section KeepsTables
variable {s t u : State}

theorem KeepsTables.refl (s : State) : KeepsTables s s := ⟨rfl, rfl, rfl, fun _ => .inl rfl⟩

theorem KeepsTables.trans (h : KeepsTables s t) (k : KeepsTables t u) : KeepsTables s u :=
  ⟨k.managers.trans h.managers, k.params.trans h.params, k.windows.trans h.windows, fun w => by
    rcases k.holders w with hk | hk
    · rw [hk]; exact h.holders w
    · exact .inr hk⟩

theorem KeepsTables.after (k : KeepsTables t u) (h : KeepsTables s t) : KeepsTables s u := h.trans k

theorem KeepsTables.of_grants (hm : t.managers = s.managers) (hp : t.params = s.params) (hw : t.windows = s.windows)
    (hg : t.grants = s.grants) : KeepsTables s t :=
  ⟨hm, hp, hw, fun w => .inl (by simp only [State.holderOf, State.grantOf, hg])⟩

/-- A window law and a grant law that speak of windows and holders alone. -/
theorem KeepsTables.tablesLaw (h : KeepsTables s t) (hs : TablesLaw s) : TablesLaw t := by
  obtain ⟨hm, hp, hw, hg⟩ := hs
  have hwindow (w : WindowId) : t.window w = s.window w := by simp only [State.window, h.windows]
  refine ⟨by rwa [State.managersLawful, h.managers], by rwa [State.paramsLawful, h.params], ?_, fun w hh => ?_⟩
  · simpa only [State.windowsLawful, hwindow] using hw
  · rcases h.holders w with hsame | hnone
    · rw [hsame] at hh ⊢
      rw [hwindow]
      exact hg w hh
    · exact absurd hnone hh

theorem Inside.keepsTables (h : Inside s t) : KeepsTables s t := .of_grants h.managers h.params h.windows h.grants

theorem WorkOnly.keepsTables (h : WorkOnly s t) : KeepsTables s t := h.inside.keepsTables

theorem keepsTables_append (e : Event) (s : State) : KeepsTables s (s.append e) := (inside_append e s).keepsTables

theorem keepsTables_allocate (s : State) (i : SlotId) (q : ReqId) (k : SlotWork) : KeepsTables s (s.allocate i q k) :=
  .of_grants rfl rfl rfl rfl

theorem keepsTables_setPort (s : State) (p : PortId) (q : Port) : KeepsTables s (s.setPort p q) := by
  cases p <;> exact .of_grants rfl rfl rfl rfl

theorem PortsOnly.keepsTables (h : PortsOnly s t) : KeepsTables s t := by rw [h]; exact .of_grants rfl rfl rfl rfl

/-- Setting a record to one without a holder, or with the holder it has. -/
theorem keepsTables_setGrant {w : WindowId} {g : Option Grant} (hg : g = none ∨ g.map Grant.holder = s.holderOf w) :
    KeepsTables s (s.setGrant w g) := by
  refine ⟨rfl, rfl, rfl, fun v => ?_⟩
  simp only [State.holderOf, State.setGrant_grantOf]
  split
  next hv =>
    subst hv
    rcases hg with hg | hg
    · exact .inr (by rw [hg]; rfl)
    · exact .inl hg
  next => exact .inl rfl

theorem keepsTables_used (w : WindowId) : KeepsTables s (s.used w) := by
  unfold State.used State.useGrant
  split
  next =>
    split
    next g hg => exact keepsTables_setGrant (.inr (by simp [State.holderOf, hg]))
    next => exact .refl s
  next => exact .refl s

theorem keepsTables_endGrant (s : State) (w : WindowId) : KeepsTables s (s.endGrant w) :=
  (keepsTables_setGrant (.inl rfl)).trans (workOnly_endGrant s w).keepsTables

theorem endGrant_holderOf (s : State) (w : WindowId) : (s.endGrant w).holderOf w = none := by
  rw [State.holderOf, State.grantOf, (workOnly_endGrant s w).grants]
  exact congrArg _ (State.setGrant_grantOf_self s w none)

theorem keepsTables_revokeGrant (s : State) (w : WindowId) (cause : RevokeCause) : KeepsTables s (s.revokeGrant w cause) := by
  unfold State.revokeGrant
  split
  next => exact (keepsTables_endGrant ..).trans (keepsTables_append ..)
  next => exact .refl s

/-- After the management unit ended its grant a record has no holder. -/
theorem revokeGrant_holderOf (s : State) (w : WindowId) (cause : RevokeCause) : (s.revokeGrant w cause).holderOf w = none := by
  unfold State.revokeGrant
  split
  next =>
    rw [State.holderOf, State.grantOf, (inside_append ..).grants]
    exact endGrant_holderOf s w
  next h => exact h

theorem keepsTables_requestOffline (s : State) (c : ChannelId) : KeepsTables s (s.requestOffline c) := by
  unfold State.requestOffline
  split
  next => exact (inside_offlineEntry ..).keepsTables
  next => exact (workOnly_setChannel ..).keepsTables
  all_goals exact .refl s

theorem keepsTables_bringOnline (s : State) (c : ChannelId) : KeepsTables s (s.bringOnline c) :=
  (((workOnly_setChannel s c _).trans (workOnly_foldl _ workOnly_returnSealed _ _)).trans
    (workOnly_tryEnqueue ..)).keepsTables.trans (keepsTables_append ..)

theorem completeRestart_grantOf (s : State) (q : ReqId) (w : WindowId) : (s.completeRestart q).grantOf w = none := by
  rw [State.completeRestart, (inside_append ..).grantOf]
  simp [State.grantOf]

theorem keepsTables_settleRestart (s : State) : KeepsTables s s.settleRestart := by
  rcases settleRestart_or s with h | ⟨q, -, -, h⟩
  · rw [h]; exact .refl s
  · rw [h]
    have hi := inside_append (.restartDone q)
    exact ⟨(hi _).managers, (hi _).params, (hi _).windows, fun w => .inr (by rw [State.holderOf, completeRestart_grantOf]; rfl)⟩

theorem keepsTables_elapse (n : Micros) (s : State) : KeepsTables s (s.elapse n) := by
  refine ⟨rfl, rfl, rfl, fun w => .inl ?_⟩
  simp only [State.holderOf, State.grantOf, State.elapse, Fin.getElem_fin, Vector.getElem_map, Option.map_map]
  rfl

theorem keepsTables_takeCompletion (s : State) (c : ChannelId) (op : Op) (status : CompletionStatus) (bytes : List Byte) :
    KeepsTables s (s.takeCompletion c op status bytes) := by
  rcases takeCompletion_or s c op status bytes with h | ⟨-, -, h⟩
  · rw [h]; exact (inside_failedAttempt ..).keepsTables
  · rw [h]; exact (inside_headSucceeded ..).keepsTables

/-- The events leave the tables, but for the holders that expire. -/
theorem Effect.keepsTables {i : Instr} (h : Effect s i t) : KeepsTables s t := by
  cases h with
  | nothing => exact .refl s
  | arrival p f =>
    rcases arrive_or p f s with ⟨q, hq⟩ | ⟨q, hq⟩
    · rw [hq]; exact keepsTables_setPort ..
    · rw [hq]; exact (keepsTables_append ..).after (keepsTables_setPort ..)
  | linkUp | linkDown => exact (keepsTables_append ..).after (keepsTables_setPort ..)
  | transmissionEnd => exact keepsTables_setPort ..
  | completion => exact (keepsTables_settleRestart _).after (keepsTables_takeCompletion ..)
  | late => exact (keepsTables_append ..).after (inside_setCounters ..).keepsTables
  | timeout =>
    exact (keepsTables_settleRestart _).after ((inside_failedAttempt ..).keepsTables.after
      ((inside_setCounters ..).keepsTables.after (keepsTables_elapse ..)))
  | idleExpiry | limitExpiry => exact (workOnly_sealBuffer ..).keepsTables.after (keepsTables_elapse ..)
  | holdExpiry =>
    exact (keepsTables_append ..).after ((inside_setCounters ..).keepsTables.after
      ((workOnly_setSlot ..).keepsTables.after (keepsTables_elapse ..)))
  | grantExpiry => exact (keepsTables_append ..).after ((keepsTables_endGrant ..).after (keepsTables_elapse ..))

end KeepsTables

/-! #### Values the operands carry -/

/-- A rights byte in its range names a right (R171). -/
theorem rightsOfCode_some {b : Byte} {r : Rights} (h : rightsOfCode b = some r) :
    r = ⟨b.getLsbD 0, b.getLsbD 1, b.getLsbD 2⟩ ∧ b.toNat ≤ 7 ∧ (r.read = true ∨ r.write = true ∨ r.clear = true) := by
  have hbits : ∀ b : Byte, 1 ≤ b.toNat → b.toNat ≤ 7 →
      (b.getLsbD 0 = true ∨ b.getLsbD 1 = true ∨ b.getLsbD 2 = true) := by decide
  simp only [rightsOfCode, Bool.and_eq_true, decide_eq_true_eq, Option.ite_none_right_eq_some, Option.some.injEq] at h
  obtain ⟨⟨h1, h7⟩, rfl⟩ := h
  exact ⟨rfl, h7, hbits b h1 h7⟩

/-- What WINDOW_LOAD's operand reads as, field by field, and the judgement of R18. -/
theorem windowLoadOperand_some {op : List Byte} {w : WindowId} {e : WindowEntry} (h : windowLoadOperand op = some (w, e)) :
    ∃ (c : ChannelId) (r : Rights) (g : Bool),
      idOfCode 24 (byteAt op 0) = some w ∧ channelOfCode (byteAt op 13) = some c ∧ rightsOfCode (byteAt op 14) = some r
      ∧ flagOfCode (byteAt op 15) = some g
      ∧ e = ⟨true, BitVec.ofNat 32 (fieldAt op 1 4), BitVec.ofNat 24 (fieldAt op 5 3), fieldAt op 8 3, c,
          BitVec.ofNat 16 (fieldAt op 11 2), r, g⟩
      ∧ BitVec.ofNat 32 (fieldAt op 1 4) ≠ 0 ∧ inSet (BitVec.ofNat 32 (fieldAt op 1 4)) 0 = false
      ∧ (1 ≤ fieldAt op 8 3 ∧ fieldAt op 8 3 ≤ 65536) ∧ fieldAt op 5 3 + fieldAt op 8 3 ≤ 16777216
      ∧ fieldAt op 11 2 + fieldAt op 8 3 ≤ 65536 ∧ (g = true → r.write = true ∨ r.clear = true) := by
  unfold windowLoadOperand at h
  split at h
  next w' c r g hw hc hr hg =>
    simp only [Option.ite_none_left_eq_some, Bool.or_eq_true, beq_iff_eq, decide_eq_true_eq, Bool.and_eq_true,
      Bool.not_eq_true', not_or, not_and, Bool.not_eq_true, Bool.not_eq_false, not_lt, Option.some.injEq, Prod.mk.injEq] at h
    obtain ⟨⟨⟨⟨⟨⟨⟨h0, hin⟩, hp0⟩, hp⟩, hl⟩, hs⟩, hgr⟩, rfl, rfl⟩ := h
    refine ⟨c, r, g, hw, hc, hr, hg, rfl, h0, hin, ⟨by omega, hp⟩, hl, hs, fun hg => ?_⟩
    cases hwr : r.write
    · exact .inr (hgr ⟨hg, hwr⟩)
    · exact .inl rfl
  next => cases h

/-- An entry WINDOW_LOAD reads is valid and in its ranges (R18). -/
theorem inRanges_of_windowLoadOperand {op : List Byte} {w : WindowId} {e : WindowEntry}
    (h : windowLoadOperand op = some (w, e)) : e.valid = true ∧ e.inRanges := by
  obtain ⟨c, r, g, -, -, hr, -, rfl, h0, hin, hp, hl, hs, hg⟩ := windowLoadOperand_some h
  obtain ⟨-, -, hright⟩ := rightsOfCode_some hr
  refine ⟨rfl, ⟨h0, hin⟩, hp, ?_, ?_, hright, hg⟩
  · exact Nat.le_trans (Nat.add_le_add_right (by rw [BitVec.toNat_ofNat]; exact Nat.mod_le _ _) _) hl
  · exact Nat.le_trans (Nat.add_le_add_right (by rw [BitVec.toNat_ofNat]; exact Nat.mod_le _ _) _) hs

/-- A numeric parameter is set to a value in its range. -/
theorem map_inRange_some {α : Type} {lo hi v : Nat} {g : Nat → α} {y : α} (h : (inRange lo hi v).map g = some y) :
    y = g v ∧ lo ≤ v ∧ v ≤ hi := by
  simp only [inRange, Bool.and_eq_true, decide_eq_true_eq, Option.map_eq_some_iff, Option.ite_none_right_eq_some,
    Option.some.injEq] at h
  obtain ⟨x, ⟨hrange, rfl⟩, rfl⟩ := h
  exact ⟨rfl, hrange⟩

/-- A NOTICE_TARGET in its range names no requester 0 (R145). -/
theorem noticeTargetOfCode_fits {v : Nat} {target : Option (ReqId × PortId)} (h : noticeTargetOfCode v = some target) :
    ∀ q p, target = some (q, p) → q ≠ 0 := by
  intro q p ht hq
  unfold noticeTargetOfCode at h
  split at h
  next => cases h; cases ht
  next h0 =>
    split at h
    next => cases h
    next h31 =>
      obtain ⟨p', -, hp'⟩ := Option.map_eq_some_iff.mp h
      rw [← hp'] at ht
      simp only [Option.some.injEq, Prod.mk.injEq] at ht
      have hz : (BitVec.ofNat 5 (v / 256)).toNat = 0 := by rw [ht.1, hq]; rfl
      rw [BitVec.toNat_ofNat] at hz
      omega

/-- PARAM_SET keeps every parameter in its range (R145, R146). -/
theorem lawful_paramsSet {ps ps' : Params} {id : ParamId} {v : Nat} (h : ps.set id v = some ps') (hl : ps.lawful) :
    ps'.lawful := by
  obtain ⟨h1, h2, h3, h4, h5, h6, h7, h8, h9⟩ := hl
  cases id with
  | noticeTarget =>
    obtain ⟨target, ht, rfl⟩ := Option.map_eq_some_iff.mp h
    refine ⟨h1, h2, h3, h4, h5, h6, h7, h8, ?_⟩
    unfold Params.targetFits
    split
    next => rfl
    next q p hqp => simpa using noticeTargetOfCode_fits ht q p hqp
  | holdTime =>
    obtain ⟨rfl, hr⟩ := map_inRange_some h
    exact ⟨hr, h2, h3, h4, h5, h6, h7, h8, h9⟩
  | coalesceIdle =>
    obtain ⟨rfl, hr⟩ := map_inRange_some h
    exact ⟨h1, hr, h3, h4, h5, h6, h7, h8, h9⟩
  | openLimit =>
    obtain ⟨rfl, hr⟩ := map_inRange_some h
    exact ⟨h1, h2, hr, h4, h5, h6, h7, h8, h9⟩
  | grantLife =>
    obtain ⟨rfl, hr⟩ := map_inRange_some h
    exact ⟨h1, h2, h3, hr, h5, h6, h7, h8, h9⟩
  | opTimeout =>
    obtain ⟨rfl, hr⟩ := map_inRange_some h
    exact ⟨h1, h2, h3, h4, hr, h6, h7, h8, h9⟩
  | retryLimit =>
    obtain ⟨rfl, hr⟩ := map_inRange_some h
    exact ⟨h1, h2, h3, h4, h5, hr.2, h7, h8, h9⟩
  | offlineStreak =>
    obtain ⟨rfl, hr⟩ := map_inRange_some h
    exact ⟨h1, h2, h3, h4, h5, h6, hr, h8, h9⟩
  | slotsPerReq =>
    obtain ⟨rfl, hr⟩ := map_inRange_some h
    exact ⟨h1, h2, h3, h4, h5, h6, h7, hr, h9⟩

/-! #### What changes a table -/

section Tables
variable {s t : State}

theorem overlaps_comm (a b : WindowEntry) : a.overlaps b = b.overlaps a := by
  simp only [WindowEntry.overlaps, BitVec.and_comm, Bool.and_assoc]
  congr 1
  exact Bool.and_comm ..

/-- A new entry, valid and in its ranges or invalid, that no other valid entry overlaps keeps the window law (R18, R19). -/
theorem windowsLawful_setWindow {w : WindowId} {e : WindowEntry} (hw : s.windowsLawful)
    (he : e.valid = true → e.inRanges ∧ ∀ v, v ≠ w → (s.window v).valid = true → (s.window v).overlaps e = false) :
    (s.setWindow w e).windowsLawful := by
  refine ⟨fun v hv => ?_, fun u v huv hu hv => ?_⟩
  · rw [State.setWindow_window] at hv ⊢
    split at hv
    next h => rw [if_pos h]; exact (he hv).1
    next h => rw [if_neg h]; exact hw.1 v hv
  · rw [State.setWindow_window] at hu hv ⊢
    rw [State.setWindow_window]
    by_cases h : u = w
    · have h' : v ≠ w := fun hvw => huv (h.trans hvw.symm)
      rw [if_pos h] at hu ⊢
      rw [if_neg h'] at hv ⊢
      rw [overlaps_comm]
      exact (he hu).2 v h' hv
    · rw [if_neg h] at hu ⊢
      by_cases h' : v = w
      · rw [if_pos h'] at hv ⊢
        exact (he hv).2 u h hu
      · rw [if_neg h'] at hv ⊢
        exact hw.2 u v huv hu hv

/-- Replacing an entry and ending the grant of its record keeps the tables (R19, R121). -/
theorem tablesLaw_replaced {w : WindowId} {e : WindowEntry} (cause : RevokeCause) (h : TablesLaw s)
    (he : e.valid = true → e.inRanges ∧ ∀ v, v ≠ w → (s.window v).valid = true → (s.window v).overlaps e = false) :
    TablesLaw ((s.setWindow w e).revokeGrant w cause) := by
  obtain ⟨hm, hp, hw, hg⟩ := h
  have hk := keepsTables_revokeGrant (s.setWindow w e) w cause
  have hwindow (v : WindowId) : ((s.setWindow w e).revokeGrant w cause).window v = (s.setWindow w e).window v := by
    simp only [State.window, hk.windows]
  refine ⟨by rw [State.managersLawful, hk.managers]; exact hm, by rw [State.paramsLawful, hk.params]; exact hp, ?_,
    fun v hv => ?_⟩
  · simpa only [State.windowsLawful, hwindow] using windowsLawful_setWindow hw he
  · rcases hk.holders v with hsame | hnone
    · have hvw : v ≠ w := by
        rintro rfl
        exact hv (revokeGrant_holderOf ..)
      rw [hsame] at hv ⊢
      rw [hwindow, State.setWindow_window, if_neg hvw]
      exact hg v hv
    · exact absurd hnone hv

theorem tablesLaw_startGrant {w : WindowId} {q : ReqId} (hq : q ≠ 0) (hv : (s.window w).valid = true)
    (hr : (s.window w).grantRequired = true) (h : TablesLaw s) : TablesLaw (s.startGrant w q) := by
  obtain ⟨hm, hp, hw, hg⟩ := h
  refine ⟨hm, hp, hw, fun v hh => ?_⟩
  simp only [State.holderOf, State.startGrant, State.setGrant_grantOf] at hh ⊢
  split at hh
  next hvw => subst hvw; exact ⟨by simpa using hq, hv, hr⟩
  next hvw => rw [if_neg hvw]; exact hg v hh

/-- Every service keeps the tables. -/
theorem Work.tablesLaw {i : Instr} (hw : Work s i t) (h : TablesLaw s) : TablesLaw t := by
  cases hw with
  | same => exact h
  | busy | overlayHit => exact (inside_setCounters ..).keepsTables.tablesLaw h
  | deferred =>
    exact ((inside_setCounters ..).keepsTables.after ((workOnly_appendOp ..).keepsTables.after
      (keepsTables_allocate ..))).tablesLaw h
  | merged => exact ((keepsTables_used _).after (workOnly_mergeInto ..).keepsTables).tablesLaw h
  | opened =>
    refine ((keepsTables_used _).after ((workOnly_mergeInto ..).keepsTables.after ?_)).tablesLaw h
    exact .of_grants rfl rfl rfl rfl
  | pressure => exact ((inside_setCounters ..).keepsTables.after (workOnly_pressureSeal s).keepsTables).tablesLaw h
  | cleared => exact ((keepsTables_used _).after (workOnly_appendOp ..).keepsTables).tablesLaw h
  | collected => exact (workOnly_setSlot ..).keepsTables.tablesLaw h
  | granted p w q hq hv hr => exact tablesLaw_startGrant hq hv hr h
  | released => exact (keepsTables_endGrant ..).tablesLaw h
  | flushed | sealedAll => exact (workOnly_sealAllOf ..).keepsTables.tablesLaw h
  | waited =>
    exact ((keepsTables_allocate ..).after (workOnly_sealAllOf ..).keepsTables).tablesLaw h
  | loaded p w e op he hov =>
    refine tablesLaw_replaced _ h fun _ => ⟨(inRanges_of_windowLoadOperand he).2, fun v hv hvalid => ?_⟩
    simp only [State.loadOverlaps, List.any_eq_false, Bool.and_eq_true, bne_iff_ne, not_and, Bool.not_eq_true] at hov
    exact hov v (List.mem_finRange v) ⟨hv, hvalid⟩
  | windowCleared p w => exact tablesLaw_replaced _ h fun hv => by simp at hv
  | revoked => exact (keepsTables_revokeGrant ..).tablesLaw h
  | retried => exact (workOnly_retryBuffer ..).keepsTables.tablesLaw h
  | discarded =>
    exact ((workOnly_tryEnqueue ..).keepsTables.after ((inside_releaseBuffer ..).keepsTables.after
      (keepsTables_append ..))).tablesLaw h
  | wentOffline => exact (keepsTables_requestOffline ..).tablesLaw h
  | cameOnline => exact (keepsTables_bringOnline ..).tablesLaw h
  | removed =>
    refine KeepsTables.tablesLaw ?_ h
    unfold State.removeRecords
    split <;> exact .of_grants rfl rfl rfl rfl
  | zeroed => exact h
  | paramSet p id v ps hps =>
    obtain ⟨hm, hp, hwin, hg⟩ := h
    split
    next => exact ⟨hm, lawful_paramsSet hps hp, hwin, hg⟩
    next => unfold State.retarget; split <;> exact ⟨hm, lawful_paramsSet hps hp, hwin, hg⟩
  | managersSet p m h0 hm => exact ⟨⟨hm, h0⟩, h.2⟩
  | restarted =>
    refine ((keepsTables_settleRestart _).after ?_).tablesLaw h
    exact .of_grants rfl rfl rfl rfl

end Tables

/-! #### Reset -/

theorem lawful_paramsDefaults : Params.defaults.lawful := by decide

theorem reset_window (w : WindowId) : State.reset.window w = WindowEntry.reset := by simp [State.window, State.reset]

theorem reset_grantOf (w : WindowId) : State.reset.grantOf w = none := by simp [State.grantOf, State.reset]

theorem tablesLaw_reset : TablesLaw State.reset := by
  refine ⟨by decide, lawful_paramsDefaults, ⟨fun w hv => ?_, fun v w _ hv => ?_⟩, fun w hh => ?_⟩
  · rw [reset_window] at hv; cases hv
  · rw [reset_window] at hv; cases hv
  · exact absurd (by rw [State.holderOf, reset_grantOf]; rfl) hh

theorem strapId_ne_zero (mgid : BitVec 5) : strapId mgid ≠ 0 := by
  unfold strapId
  split
  next => decide
  next h => exact h

/-- The set the straps name has one member, which is not ID 0 (R143, R156). -/
theorem inSet_straps (mgid : BitVec 5) (n : Nat) :
    inSet (joinSet (0 : ReqSet) (strapId mgid).toNat) n = decide (n = (strapId mgid).toNat) := by
  have hlt := (strapId mgid).isLt
  rw [inSet_joinSet, show (0 : ReqSet) = 0#32 from rfl, inSet_zero, Bool.false_or]
  by_cases h : n = (strapId mgid).toNat
  · subst h
    simp
    omega
  · simp [h, Ne.symm h]

theorem managersLawful_straps (mgid : BitVec 5) :
    joinSet (0 : ReqSet) (strapId mgid).toNat ≠ 0 ∧ inSet (joinSet (0 : ReqSet) (strapId mgid).toNat) 0 = false := by
  constructor
  · intro h
    have hmem := inSet_straps mgid (strapId mgid).toNat
    rw [h, show (0 : ReqSet) = 0#32 from rfl, inSet_zero] at hmem
    simp at hmem
  · rw [inSet_straps, decide_eq_false_iff_not]
    intro h
    exact strapId_ne_zero mgid (BitVec.eq_of_toNat_eq h.symm)

/-- Settles O55: services and events keep the tables, and pin reset and the deassertion write values in their ranges. -/
theorem everyStepKeepsTheTables : Obligations.EveryStepKeepsTheTables := by
  intro s t hm hp hw hg hstep
  have h : TablesLaw s := ⟨hm, hp, hw, hg⟩
  rcases step_cases hstep with ⟨-, rfl⟩ | ⟨i, rest, -, ha⟩
  · rcases idleStep_or s with hs | ⟨-, hs⟩
    · rw [hs]; exact h
    · rw [hs]; exact (keepsTables_elapse 1 s).tablesLaw h
  · have h' : TablesLaw { s with pending := rest } := h
    cases ha with
    | nothing => exact h'
    | taken p serve f hi ho =>
      obtain ⟨-, -, -, -, hc⟩ := ho
      exact (portsOnly_afterTaking ..).keepsTables.tablesLaw
        ((work_of_service _ hi hc).tablesLaw ((portsOnly_beginTaking ..).keepsTables.tablesLaw h'))
    | event u _ hu => exact (hu.keepsTables.trans (portsOnly_placeNotice u).keepsTables).tablesLaw h'
    | pinReset => exact tablesLaw_reset
    | deasserted mgid => exact ⟨managersLawful_straps mgid, lawful_paramsDefaults, hw, hg⟩

end Sys2Proof.Machine

/-! ### The port laws (R124, R126, R128 to R134) -/

namespace Sys2Proof.Machine

/-- The laws of one port: places and credits, checked arrivals, credit returns. -/
abbrev Port.ok (q : Port) : Prop := q.lawful ∧ q.inboundChecked ∧ q.creditsFit

section Port
variable {q : Port}

theorem startTransmitter_head {r : OutFrame} {rest : List OutFrame} (hup : q.up = true) (hi : q.transmitter = .idle)
    (ho : q.outbound = r :: rest) :
    q.startTransmitter = { q with outbound := { r with creditReturn := q.owed } :: rest, owed := 0, transmitter := .sendingHead } := by
  simp only [Port.startTransmitter, hup, hi, ho]

/-- Nothing to send and nothing owed: the transmitter stays IDLE. -/
theorem startTransmitter_rest (ho : q.outbound = []) (hc : q.owed = 0) : q.startTransmitter = q := by
  unfold Port.startTransmitter
  rw [ho, hc]
  split <;> simp_all

/-- A port that satisfies the port laws, but that its IDLE transmitter may have something to start. -/
structure Port.Waiting (q : Port) : Prop where
  up : q.up = true
  credits : q.inbound.length + q.owed ≤ 8
  places : q.outbound.length ≤ 8
  reserved : q.reserved = 0
  transmitter : q.transmitter = .idle ∨ q.transmitterFits = true
  checked : q.inboundChecked
  returns : q.creditsFit

theorem Port.ok.waiting (h : q.ok) (hup : q.up = true) : q.Waiting := by
  obtain ⟨⟨hc, hp, hr, ht, -⟩, hin, hret⟩ := h
  exact ⟨hup, hc, hp, hr, .inr ht, hin, hret⟩

/-- The port laws at an UP port whose transmitter fits. -/
theorem Port.Waiting.ok (h : q.Waiting) (ht : q.transmitterFits = true) : q.ok :=
  ⟨⟨h.credits, h.places, h.reserved, ht, fun hup => absurd h.up (by simp [hup])⟩, h.checked, h.returns⟩

/-- The start of the transmitter leaves a lawful port: the head takes the credits owed, or a CREDIT frame does (R132, R133). -/
theorem Port.Waiting.startTransmitter (h : q.Waiting) : q.startTransmitter.ok := by
  have hcredits := h.credits
  rcases h.transmitter with hi | ht
  · cases ho : q.outbound with
    | cons r rest =>
      rw [startTransmitter_head h.up hi ho]
      obtain ⟨hall, htail⟩ := h.returns
      rw [ho, List.all_cons, Bool.and_eq_true] at hall
      rw [ho] at htail
      refine Port.Waiting.ok ⟨h.up, by simp only; omega, by simpa [ho] using h.places, h.reserved, .inr ?_, h.checked, ?_, htail⟩ ?_
      · simp [Port.transmitterFits]
      · simp only [List.all_cons, Bool.and_eq_true, decide_eq_true_eq]
        exact ⟨by simp only [Config.queuePlaces]; omega, hall.2⟩
      · simp [Port.transmitterFits]
    | nil =>
      by_cases hc : 1 ≤ q.owed
      · have hfits : decide (1 ≤ q.owed) && decide (q.owed ≤ Config.queuePlaces) := by
          simp only [Config.queuePlaces, Bool.and_eq_true, decide_eq_true_eq]
          omega
        rw [startTransmitter_credit h.up hi ho hc]
        exact Port.Waiting.ok ⟨h.up, by simp only; omega, h.places, h.reserved, .inr hfits, h.checked, h.returns⟩ hfits
      · have hz : q.owed = 0 := by omega
        rw [startTransmitter_rest ho hz]
        exact h.ok (by simp [Port.transmitterFits, hi, ho, hz])
  · by_cases hi : q.transmitter = .idle
    · have hz : q.outbound = [] ∧ q.owed = 0 := by simpa [Port.transmitterFits, hi] using ht
      rw [startTransmitter_rest hz.1 hz.2]
      exact h.ok ht
    · rw [startTransmitter_working hi]
      exact h.ok ht

/-- A frame joins the tail with no credit return yet; a transmitter at work has something to send before it (R130, R132). -/
theorem Port.Waiting.place {r : OutFrame} (h : q.Waiting) (hplace : q.outbound.length < 8) (hr : r.creditReturn = 0) :
    (q.place r).ok := by
  refine Port.Waiting.startTransmitter ⟨h.up, h.credits, ?_, h.reserved, ?_, h.checked, ?_, ?_⟩
  · simpa using hplace
  · rcases h.transmitter with hi | ht
    · exact .inl hi
    · cases hw : q.transmitter with
      | idle => exact .inl rfl
      | sendingHead => exact .inr (by simp [Port.transmitterFits])
      | sendingCredit n => exact .inr (by simpa [Port.transmitterFits, hw] using ht)
  · simp only [List.all_append, h.returns.1, List.all_cons, hr]
    rfl
  · cases ho : q.outbound with
    | nil => rfl
    | cons a rest =>
      have htail := h.returns.2
      rw [ho] at htail
      simpa [hr] using htail

/-- Counters are no part of the port laws. -/
theorem Port.ok.withCounters (h : q.ok) (k : PortCounters) : Port.ok { q with counters := k } := h

theorem ok_cleared (q : Port) (up : Bool) : (q.cleared up).ok :=
  ⟨⟨Nat.zero_le _, Nat.zero_le _, rfl, rfl, fun _ => ⟨rfl, rfl, rfl, rfl⟩⟩, rfl, rfl, rfl⟩

theorem ok_reset : Port.reset.ok := ok_cleared Port.reset false

/-- The end of a transmission starts what waits (R132, R133). -/
theorem Port.ok.transmissionEnded (h : q.ok) : q.transmissionEnded.ok := by
  have hup (hw : q.transmitter ≠ .idle) : q.up = true := by
    by_contra hdown
    obtain ⟨⟨-, -, -, -, hrest⟩, -⟩ := h
    exact hw (hrest (by simpa using hdown)).2.2.2
  unfold Port.transmissionEnded
  split
  next => exact h
  next hw =>
    obtain ⟨hu, hc, hp, hr, -, hin, hall, htail⟩ := h.waiting (hup (by simp [hw]))
    refine Port.Waiting.startTransmitter ⟨hu, hc, ?_, hr, .inl rfl, hin, ?_, ?_⟩
    · simp only [List.length_tail]
      omega
    · rw [List.all_eq_true] at hall ⊢
      exact fun r hr => hall r (List.mem_of_mem_tail hr)
    · rw [List.all_eq_true] at htail ⊢
      exact fun r hr => htail r (List.mem_of_mem_tail hr)
  next n hw =>
    obtain ⟨hu, hc, hp, hr, -, hin, hret⟩ := h.waiting (hup (by simp [hw]))
    exact Port.Waiting.startTransmitter ⟨hu, hc, hp, hr, .inl rfl, hin, hret⟩

/-- A drop at an UP port with room owes a credit (R128). -/
theorem Port.ok.dropped (h : q.ok) (hup : q.up = true) (hroom : q.overrun = false) (k : PortCounters) :
    { q with owed := q.owed + 1, counters := k }.startTransmitter.ok := by
  obtain ⟨hu, hc, hp, hr, ht, hin, hret⟩ := h.waiting hup
  obtain ⟨⟨-, -, -, hfits, -⟩, -⟩ := h
  have hcredit : q.inbound.length + (q.owed + 1) ≤ 8 := by
    have := mt (overrun_iff q).mpr (by simp [hroom])
    omega
  refine Port.Waiting.startTransmitter ⟨hu, hcredit, hp, hr, ?_, hin, hret⟩
  cases hw : q.transmitter with
  | idle => exact .inl rfl
  | sendingHead => exact .inr (by simpa [Port.transmitterFits, hw] using hfits)
  | sendingCredit n => exact .inr (by simpa [Port.transmitterFits, hw] using hfits)

/-- A frame that passed its checks joins an inbound queue with room (R128). -/
theorem Port.ok.queued {f : List Byte} (h : q.ok) (hup : q.up = true) (hroom : q.overrun = false)
    (hf : frameIntact f = true) (hd : frameDest f = 0) : Port.ok { q with inbound := q.inbound ++ [f] } := by
  obtain ⟨⟨hc, hp, hr, ht, -⟩, hin, hret⟩ := h
  have hcredit : (q.inbound ++ [f]).length + q.owed ≤ 8 := by
    have := mt (overrun_iff q).mpr (by simp [hroom])
    simp only [List.length_append, List.length_singleton]
    omega
  refine ⟨⟨hcredit, hp, hr, ht, fun hdown => by simp [hup] at hdown⟩, ?_, hret⟩
  rw [Port.inboundChecked, List.all_append, hin]
  simp [hf, hd]

/-- The taking as a whole: the head frame leaves, its credit is owed, and the response fills the place (R131). -/
theorem Port.ok.taken {f : List Byte} {r : OutFrame} (h : q.ok) (hup : q.up = true) (hplace : q.placesUsed < 8)
    (hf : q.inbound.head? = some f) (hr : r.creditReturn = 0) (k : PortCounters) :
    ({ q with reserved := 0, inbound := q.inbound.tail, owed := q.owed + 1, counters := k }.place r).ok := by
  obtain ⟨⟨hc, hp, hres, ht, -⟩, hin, hret⟩ := h
  cases hi : q.inbound with
  | nil => simp [hi] at hf
  | cons a rest =>
    have hcredit : rest.length + (q.owed + 1) ≤ 8 := by
      simp only [hi, List.length_cons, Config.queuePlaces] at hc
      omega
    have hchecked : rest.all (fun f => frameIntact f && frameDest f == 0) = true := by
      rw [Port.inboundChecked, hi, List.all_cons, Bool.and_eq_true] at hin
      exact hin.2
    have hroom : q.outbound.length < 8 := by
      simp only [Port.placesUsed, hres] at hplace
      exact hplace
    refine Port.Waiting.place ⟨hup, hcredit, hp, rfl, ?_, hchecked, hret⟩ hroom hr
    cases hw : q.transmitter with
    | idle => exact .inl rfl
    | sendingHead => exact .inr (by simpa [Port.transmitterFits, hw] using ht)
    | sendingCredit n => exact .inr (by simpa [Port.transmitterFits, hw] using ht)

end Port

/-! #### The ports of the part -/

/-- Both ports keep their laws. -/
abbrev PortsLaw (s : State) : Prop := ∀ p, (s.port p).ok

section Ports
variable {s t : State}

theorem portsLaw_iff (s : State) : s.portsLawful ∧ s.framesLawful ↔ PortsLaw s := by
  constructor
  · rintro ⟨⟨h0, h1⟩, ⟨hi0, hc0⟩, hi1, hc1⟩ p
    cases p
    · exact ⟨h0, hi0, hc0⟩
    · exact ⟨h1, hi1, hc1⟩
  · intro h
    obtain ⟨h0, hi0, hc0⟩ := h .lp0
    obtain ⟨h1, hi1, hc1⟩ := h .lp1
    exact ⟨⟨h0, h1⟩, ⟨hi0, hc0⟩, hi1, hc1⟩

theorem portsLaw_of_port (h : PortsLaw s) (ht : ∀ p, t.port p = s.port p) : PortsLaw t := fun p => by rw [ht]; exact h p

theorem portsLaw_setPort {p : PortId} {q : Port} (h : PortsLaw s) (hq : q.ok) : PortsLaw (s.setPort p q) := by
  intro r
  rw [State.setPort_port]
  split
  next => exact hq
  next => exact h r

theorem append_port (e : Event) (s : State) (p : PortId) : (s.append e).port p = s.port p := (inside_append e s).port p

theorem portsLaw_append (e : Event) (h : PortsLaw s) : PortsLaw (s.append e) := portsLaw_of_port h (append_port e s)

/-- A NOTICE fills a free place (R134). -/
theorem portsLaw_placeNotice (h : PortsLaw s) : PortsLaw s.placeNotice := by
  rcases placeNotice_or s with hs | ⟨q, p, -, -, hp, hs⟩
  · rwa [hs]
  · simp only [Port.hasPlace, Bool.and_eq_true, decide_eq_true_eq] at hp
    obtain ⟨⟨-, -, hr, -, -⟩, -⟩ := h p
    have hroom : (s.port p).outbound.length < 8 := by simpa [Port.placesUsed, hr] using hp.2
    rw [hs]
    exact portsLaw_setPort h (((h p).waiting hp.1).place hroom rfl)

theorem portsLaw_arrive {p : PortId} {f : List Byte} (h : PortsLaw s) (hup : (s.port p).up = true) :
    PortsLaw (s.arrive p f) := by
  by_cases ho : (s.port p).overrun = true
  · rw [arrive_overrun ho]
    exact portsLaw_append _ (portsLaw_setPort h ((h p).withCounters _))
  · have ho' : (s.port p).overrun = false := by simpa using ho
    by_cases hf : frameIntact f = true
    · by_cases hd : frameDest f = 0
      · rw [arrive_queued ho' hf hd]
        exact portsLaw_setPort h ((h p).queued hup ho' hf hd)
      · rw [arrive_misrouted ho' hf hd]
        exact portsLaw_setPort h ((h p).dropped hup ho' _)
    · rw [arrive_crcDrop ho' (by simpa using hf)]
      exact portsLaw_setPort h ((h p).dropped hup ho' _)

/-- t has the ports of s, but for their counters. -/
abbrev SamePorts (s t : State) : Prop := ∀ p, t.port p = { s.port p with counters := (t.port p).counters }

theorem samePorts_of_port (h : ∀ p, t.port p = s.port p) : SamePorts s t := fun p => by rw [h p]

theorem Inside.samePorts (h : Inside s t) : SamePorts s t := samePorts_of_port h.port

theorem revokeGrant_port (s : State) (w : WindowId) (cause : RevokeCause) (p : PortId) :
    (s.revokeGrant w cause).port p = s.port p := by
  unfold State.revokeGrant
  split
  next => rw [append_port, (dataOnly_endGrant ..).port]
  next => rfl

theorem settleRestart_port (s : State) (p : PortId) : s.settleRestart.port p = s.port p := by
  rcases settleRestart_or s with h | ⟨q, -, -, h⟩
  · rw [h]
  · rw [h, State.completeRestart, append_port]; rfl

/-- No service touches a port, but that COUNTERS_CLEAR clears its counters (R165). -/
theorem Work.samePorts {i : Instr} (hw : Work s i t) : SamePorts s t := by
  have hwork := hw
  cases hw with
  | same => exact samePorts_of_port fun _ => rfl
  | busy | overlayHit => exact (inside_setCounters ..).samePorts
  | deferred p | merged p | opened p | pressure p | cleared p | collected p | granted p | released p | flushed p | waited p =>
    exact samePorts_of_port (hwork.dataOnly (p := p) (by simp [dataCommands])).port
  | loaded | windowCleared | revoked => exact samePorts_of_port fun p => revokeGrant_port _ _ _ p
  | retried => exact (workOnly_retryBuffer ..).inside.samePorts
  | discarded =>
    refine samePorts_of_port fun p => ?_
    rw [(workOnly_tryEnqueue ..).dataOnly.port, (inside_releaseBuffer ..).port, append_port]
  | sealedAll => exact (workOnly_sealAllOf ..).inside.samePorts
  | wentOffline p c =>
    unfold State.requestOffline
    split
    next => exact (inside_offlineEntry ..).samePorts
    next => exact (workOnly_setChannel ..).inside.samePorts
    all_goals exact samePorts_of_port fun _ => rfl
  | cameOnline p c =>
    exact ((((workOnly_setChannel s c _).trans (workOnly_foldl _ workOnly_returnSealed _ _)).trans
      (workOnly_tryEnqueue ..)).inside.trans (inside_append ..)).samePorts
  | removed =>
    unfold State.removeRecords
    split <;> exact samePorts_of_port fun _ => rfl
  | zeroed => intro p; cases p <;> rfl
  | managersSet => exact samePorts_of_port fun _ => rfl
  | paramSet =>
    split
    next => exact samePorts_of_port fun _ => rfl
    next => unfold State.retarget; split <;> exact samePorts_of_port fun _ => rfl
  | restarted => exact samePorts_of_port fun p => settleRestart_port _ p

/-- A frame that is taken and answered keeps the port laws. -/
theorem portsLaw_taken {i : Instr} {p : PortId} {serve : List Byte → State → Served} {f : List Byte}
    (hi : serviceOf i = some (p, serve)) (ho : s.offers p i f) (h : PortsLaw s) :
    PortsLaw (afterTaking p f (serve f (s.beginTaking p))) := by
  obtain ⟨-, hup, hplace, hf, hc⟩ := ho
  have hsame := (work_of_service (s.beginTaking p) hi hc).samePorts
  have hbegun (r : PortId) (hr : r ≠ p) : (s.beginTaking p).port r = s.port r := (State.setPort_port ..).trans (if_neg hr)
  refine portsLaw_placeNotice fun r => ?_
  rw [State.respond, State.setPort_port]
  split
  next =>
    rw [hsame p, State.beginTaking, State.setPort_port_self]
    exact (h p).taken hup hplace hf rfl _
  next hr =>
    rw [hsame r, hbegun r hr]
    exact (h r).withCounters _

/-- Every event keeps the port laws. -/
theorem Effect.portsLaw {i : Instr} (he : Effect s i t) (h : PortsLaw s) : PortsLaw t := by
  cases he with
  | nothing => exact h
  | arrival p f hup => exact portsLaw_arrive h hup
  | linkUp | linkDown => exact portsLaw_append _ (portsLaw_setPort h (ok_cleared ..))
  | transmissionEnd p => exact portsLaw_setPort h (h p).transmissionEnded
  | completion c status bytes op =>
    refine portsLaw_of_port h fun p => ?_
    rw [settleRestart_port]
    rcases takeCompletion_or s c op status bytes with hs | ⟨-, -, hs⟩
    · rw [hs]; exact (inside_failedAttempt ..).port p
    · rw [hs]; exact (inside_headSucceeded ..).port p
  | late => exact portsLaw_append _ h
  | timeout =>
    refine portsLaw_of_port h fun p => ?_
    rw [settleRestart_port, (inside_failedAttempt ..).port]
    rfl
  | idleExpiry | limitExpiry => exact portsLaw_of_port h fun p => (workOnly_sealBuffer ..).inside.port p
  | holdExpiry => exact portsLaw_append _ h
  | grantExpiry => exact portsLaw_append _ (portsLaw_of_port h fun p => (dataOnly_endGrant ..).port p)

end Ports

/-- Settles O53: a port changes by an arrival, a link report, the end of a transmission, a taking with its response, or a notice, and
each keeps its laws. -/
theorem everyStepKeepsThePortLaws : Obligations.EveryStepKeepsThePortLaws := by
  intro s t hp hf hstep
  have h : PortsLaw s := (portsLaw_iff s).mp ⟨hp, hf⟩
  rw [portsLaw_iff]
  rcases step_cases hstep with ⟨-, rfl⟩ | ⟨i, rest, -, ha⟩
  · rcases idleStep_or s with hs | ⟨-, hs⟩ <;> rw [hs] <;> exact h
  · have h' : PortsLaw { s with pending := rest } := h
    cases ha with
    | nothing => exact h'
    | taken p serve f hi ho => exact portsLaw_taken hi ho h'
    | event u _ hu => exact portsLaw_placeNotice (hu.portsLaw h')
    | pinReset => intro p; cases p <;> exact ok_reset
    | deasserted => exact h'

end Sys2Proof.Machine

/-! ### The machine as a whole, time and reset -/

namespace Sys2Proof.Machine

/-- Settles O1: the step is the command at the front. -/
theorem stepRunsTheFrontCommand : Obligations.StepRunsTheFrontCommand := by
  intro s c rest h
  rw [step, h]

/-! #### The passing of time, record by record (R148) -/

section Elapse
variable (s : State) (n : Micros)

theorem elapse_channel (c : ChannelId) : (s.elapse n).channel c = (s.channel c).elapse n := by cases c <;> rfl

theorem elapse_buffer (b : BufferId) :
    (s.elapse n).buffer b = (s.buffer b).map fun x => { x with phase := x.phase.elapse n } := by
  simp [State.buffer, State.elapse]

theorem elapse_slot (i : SlotId) :
    (s.elapse n).slot i = (s.slot i).map fun x => { x with phase := x.phase.elapse n } := by
  simp [State.slot, State.elapse]

theorem elapse_grantOf (w : WindowId) :
    (s.elapse n).grantOf w = (s.grantOf w).map fun g => { g with timer := runDown n g.timer } := by
  simp [State.grantOf, State.elapse]

end Elapse

/-! #### Expiries -/

section Expiry
variable {s : State}

theorem exec_idleTimerExpiry {b : BufferId} {x : Buffer} {idle limit : Micros} (hs : s.resetAsserted = false)
    (hx : s.buffer b = some x) (hp : x.phase = .opened idle limit) :
    exec (.idleTimerExpiry b) s = .next ((s.elapse idle).sealBuffer b).placeNotice := by
  simp only [exec, execIdleTimerExpiry, event_running hs, hx, Option.map_some, hp]

theorem exec_openLimitExpiry {b : BufferId} {x : Buffer} {idle limit : Micros} (hs : s.resetAsserted = false)
    (hx : s.buffer b = some x) (hp : x.phase = .opened idle limit) :
    exec (.openLimitExpiry b) s = .next ((s.elapse limit).sealBuffer b).placeNotice := by
  simp only [exec, execOpenLimitExpiry, event_running hs, hx, Option.map_some, hp]

/-- The hold timer runs in READY and FAILED. -/
theorem holdLeft_eq {x : Slot} {left : Micros}
    (h : (∃ data, x.phase = .ready data left) ∨ ∃ cause, x.phase = .failed cause left) : x.holdLeft = some left := by
  rcases h with ⟨data, h⟩ | ⟨cause, h⟩ <;> simp only [Slot.holdLeft, h]

theorem exec_holdTimerExpiry {i : SlotId} {x : Slot} {left : Micros} (hs : s.resetAsserted = false)
    (hx : s.slot i = some x) (hl : x.holdLeft = some left) :
    exec (.holdTimerExpiry i) s = .next ((s.elapse left).abandonSlot i x).placeNotice := by
  simp only [exec, execHoldTimerExpiry, event_running hs, hx, hl]

theorem exec_inactivityTimerExpiry {w : WindowId} {g : Grant} (hs : s.resetAsserted = false) (hg : s.grantOf w = some g) :
    exec (.inactivityTimerExpiry w) s
      = .next (((s.elapse g.timer).endGrant w).append (.grantExpired g.holder w)).placeNotice := by
  simp only [exec, execInactivityTimerExpiry, event_running hs, hg]

end Expiry

/-- Settles O50: the records lose n microseconds each by its own kind, and an expiry runs its owner's operation after the time left. -/
theorem expiriesActOnTheirRecord : Obligations.ExpiriesActOnTheirRecord := by
  intro s
  constructor
  · intro n t
    refine ⟨rfl, fun c => elapse_channel s n c, fun b => ?_, fun i => ?_, fun w => elapse_grantOf s n w, rfl⟩
    · rw [elapse_buffer]
      congr 1
      funext x
      cases x.phase <;> rfl
    · rw [elapse_slot]
      congr 1
      funext x
      cases x.phase <;> rfl
  · intro hs
    refine ⟨fun b x idle limit hx hp => ⟨exec_idleTimerExpiry hs hx hp, exec_openLimitExpiry hs hx hp⟩,
      fun i x left hx hp => ?_, fun w g hg => exec_inactivityTimerExpiry hs hg⟩
    rw [exec_holdTimerExpiry hs hx (holdLeft_eq hp)]
    rfl

/-- Settles O2: an idle step is one microsecond of `ExpiriesActOnTheirRecord`, or nothing while RESET_N is asserted. -/
theorem idleStepPassesOneMicrosecond : Obligations.IdleStepPassesOneMicrosecond := by
  intro s hp
  have hstep : step s = .next s.idleStep := by rw [step, hp]
  constructor
  · intro hs
    rw [hstep, State.idleStep, if_pos hs]
  · intro hs
    refine ⟨s.elapse 1, by rw [hstep, State.idleStep, hs]; rfl, ?_⟩
    exact (expiriesActOnTheirRecord s).1 1

/-! #### Pin reset and the deassertion (R155, R156) -/

/-- While RESET_N is asserted no command but the two of reset has an effect. -/
theorem exec_resetAsserted {i : Instr} {s : State} (hs : s.resetAsserted = true) (hr : i ≠ .pinReset)
    (hd : ∀ m, i ≠ .resetDeassertion m) : exec i s = .next s := by
  obtain ⟨t, ht, ha⟩ := exec_answers i s
  rw [ht]
  cases ha with
  | nothing => rfl
  | taken p serve f hi ho =>
    obtain ⟨hno, -⟩ := ho
    rw [hs] at hno
    cases hno
  | event u hno => rw [hs] at hno; cases hno
  | pinReset hi => exact absurd hi hr
  | deasserted m hi => exact absurd hi (hd m)

theorem reset_buffer (b : BufferId) : State.reset.buffer b = none := by simp [State.buffer, State.reset]

theorem reset_slot (i : SlotId) : State.reset.slot i = none := by simp [State.slot, State.reset]

/-- Settles O4: while RESET_N is asserted no event is taken, and the reset state is read field by field. -/
theorem pinResetLeavesTheResetValues : Obligations.PinResetLeavesTheResetValues := by
  constructor
  · intro c s hs hr hd
    exact exec_resetAsserted hs hr hd
  · intro s
    refine ⟨_, rfl, rfl, reset_window, reset_grantOf, reset_buffer, rfl, rfl, rfl, reset_slot, rfl, ?_, ?_, rfl, rfl, rfl, rfl,
      rfl, rfl, rfl, rfl, rfl⟩
    · intro c; cases c <;> exact ⟨rfl, rfl, rfl, rfl, rfl⟩
    · intro p; cases p <;> rfl

theorem strapId_toNat (mgid : BitVec 5) : (strapId mgid).toNat = if mgid = 0 then 31 else mgid.toNat := by
  unfold strapId
  split <;> rfl

/-- Settles O5: the set the straps name has the one member `strapId`. -/
theorem deassertionSamplesTheStraps : Obligations.DeassertionSamplesTheStraps := by
  intro s mgid hs
  have he : exec (.resetDeassertion mgid) s = .next _ := congrArg Host.Outcome.next (if_pos hs)
  refine ⟨_, he, rfl, fun q _ => ?_, rfl, rfl, rfl, rfl⟩
  rw [← strapId_toNat]
  exact inSet_straps mgid q

/-! #### The event log (R159, R161) -/

/-- The notice state after an append. -/
def State.noticeAfter (s : State) : NoticeState :=
  if s.notice = .armed ∧ s.params.noticeTarget ≠ none then .pending else s.notice

theorem noticeAfter_pending {s : State} {target : ReqId × PortId} (hn : s.notice = .armed)
    (ht : s.params.noticeTarget = some target) : s.noticeAfter = .pending := if_pos ⟨hn, by simp [ht]⟩

theorem noticeAfter_same {s : State} (h : ∀ target, s.notice = .armed → s.params.noticeTarget = some target → False) :
    s.noticeAfter = s.notice := by
  refine if_neg ?_
  rintro ⟨hn, ht⟩
  obtain ⟨target, hsome⟩ := Option.ne_none_iff_exists'.mp ht
  exact h target hn hsome

/-- A record is kept while the log has room. -/
theorem append_kept {e : Event} {s : State} (h : s.log.length < 16) :
    s.append e = { s with
      log := s.log ++ [⟨s.sequence, s.timeBase, e⟩], sequence := s.sequence + 1, notice := s.noticeAfter } := by
  simp only [State.append, Config.logPlaces, if_pos h]
  split
  next hn ht => rw [noticeAfter_pending hn ht]
  next hno => rw [noticeAfter_same hno]

/-- A record that finds the log full is counted. -/
theorem append_counted {e : Event} {s : State} (h : 16 ≤ s.log.length) :
    s.append e = { s with overflow := bump s.overflow, notice := s.noticeAfter } := by
  simp only [State.append, Config.logPlaces, if_neg (Nat.not_lt.mpr h)]
  split
  next hn ht => rw [noticeAfter_pending hn ht]
  next hno => rw [noticeAfter_same hno]

/-- Settles O51: a record is kept or counted by the room in the log, and the notice state follows in both cases. -/
theorem appendOffersOneRecord : Obligations.AppendOffersOneRecord := by
  intro s e notice
  have hbump : bump s.overflow = if s.overflow = 65535 then 65535 else s.overflow + 1 := by
    unfold bump
    split
    next h => exact h.trans (if_pos h).symm
    next h => exact (if_neg h).symm
  exact ⟨append_kept, fun h => by rw [append_counted h, hbump]; rfl⟩

end Sys2Proof.Machine

/-! ### Link reports, transmissions, takings and notices (R125, R126, R131 to R136, R162) -/

namespace Sys2Proof.Machine

section Notices
variable {s : State}

/-- No notice is PENDING, or it finds no place. -/
theorem placeNotice_waits (h : s.noticeWaits = true) : s.placeNotice = s := by
  rcases placeNotice_or s with hs | ⟨q, p, hn, ht, hp, -⟩
  · exact hs
  · rw [(noticeWaits_iff s).mp h q p hn ht] at hp
    cases hp

theorem placeNotice_placed {q : ReqId} {p : PortId} (hn : s.notice = .pending) (ht : s.params.noticeTarget = some (q, p))
    (hp : (s.port p).hasPlace = true) :
    s.placeNotice = { s.setPort p ((s.port p).place (s.noticeFrame q)) with notice := .sent } := by
  simp only [State.placeNotice, hn, ht, hp, if_true]

theorem hasPlace_iff (q : Port) : q.hasPlace = true ↔ q.up = true ∧ q.outbound.length + q.reserved < 8 := by
  rw [Port.hasPlace, Bool.and_eq_true, decide_eq_true_eq]
  rfl

end Notices

/-- Settles O11: with a target, the notice rule asks whether a notice is PENDING and whether the port has a place. -/
theorem pendingNoticeIsPlaced : Obligations.PendingNoticeIsPlaced := by
  intro s q p newest ht hl
  constructor
  · intro hn hup hroom
    rw [placeNotice_placed hn ht ((hasPlace_iff _).mpr ⟨hup, hroom⟩), State.noticeFrame, State.newestSequence, hl]
  · intro h
    refine placeNotice_waits ((noticeWaits_iff s).mpr fun q' p' hn ht' => ?_)
    rw [ht] at ht'
    cases ht'
    rw [Bool.eq_false_iff, ne_eq, hasPlace_iff]
    rintro ⟨hup, hroom⟩
    rcases h with h | h | h
    · exact h hn
    · rw [hup] at h; cases h
    · omega

/-! #### Link reports (R125, R126) -/

section Link
variable {s : State} {p : PortId}

theorem exec_linkUp_down (hs : s.resetAsserted = false) (hup : (s.port p).up = false) :
    exec (.linkUp p) s = .next ((s.setPort p ((s.port p).cleared true)).append (.linkUp p)).placeNotice := by
  simp [exec, execLinkUp, event_running hs, hup]

theorem exec_linkUp_up (hs : s.resetAsserted = false) (hup : (s.port p).up = true) :
    exec (.linkUp p) s = .next s.placeNotice := by
  simp only [exec, execLinkUp, event_running hs, hup, if_true]

theorem exec_linkDown_up (hs : s.resetAsserted = false) (hup : (s.port p).up = true) :
    exec (.linkDown p) s = .next ((s.setPort p ((s.port p).cleared false)).append (.linkDown p)).placeNotice := by
  simp only [exec, execLinkDown, event_running hs, hup, if_true]

theorem exec_linkDown_down (hs : s.resetAsserted = false) (hup : (s.port p).up = false) :
    exec (.linkDown p) s = .next s.placeNotice := by
  simp [exec, execLinkDown, event_running hs, hup]

/-- The end of a transmission changes the port alone. -/
theorem exec_transmissionEnd (hs : s.resetAsserted = false) :
    exec (.transmissionEnd p) s = .next (s.setPort p (s.port p).transmissionEnded).placeNotice := by
  simp only [exec, execTransmissionEnd, event_running hs]

end Link

/-- Settles O7: a report that changes the port clears it; one that does not leaves the state, whose notice finds no place. -/
theorem linkReportsMoveThePort : Obligations.LinkReportsMoveThePort := by
  intro s p hs hw
  refine ⟨fun hup => exec_linkUp_down hs hup, fun hup => ?_, fun hup => exec_linkDown_up hs hup, fun hup => ?_⟩
  · rw [exec_linkUp_up hs hup, placeNotice_waits hw]
  · rw [exec_linkDown_down hs hup, placeNotice_waits hw]

/-! #### The end of a transmission (R132, R133) -/

/-- The frame sent leaves, and the transmitter is started from IDLE. -/
theorem transmissionEnded_eq {q : Port} {rest : List OutFrame}
    (h : q.transmitter = .sendingHead ∧ q.outbound.tail = rest
      ∨ (∃ n, q.transmitter = .sendingCredit n) ∧ q.outbound = rest) :
    q.transmissionEnded = { q with outbound := rest, transmitter := .idle }.startTransmitter := by
  rcases h with ⟨ht, rfl⟩ | ⟨⟨n, ht⟩, rfl⟩ <;> simp only [Port.transmissionEnded, ht]

/-- Settles O8: what is left in the queue, and else what is owed, says what an IDLE transmitter starts. -/
theorem transmissionEndStartsTheNextFrame : Obligations.TransmissionEndStartsTheNextFrame := by
  intro s p rest hs hup hsent q
  rw [exec_transmissionEnd hs, transmissionEnded_eq hsent]
  refine ⟨fun r rs hr => ?_, fun hr hc => ?_, fun hr hc => ?_⟩
  · rw [startTransmitter_head (q := { q with outbound := rest, transmitter := .idle }) hup rfl hr]
  · subst hr
    rw [startTransmitter_credit (q := { q with outbound := [], transmitter := .idle }) hup rfl rfl hc]
  · subst hr
    rw [startTransmitter_rest (q := { q with outbound := [], transmitter := .idle }) rfl hc]

/-! #### The taking of a frame (R131, R135, R136) -/

/-- Placing a frame on an UP port whose IDLE transmitter has no other: it is started with the credits owed. -/
theorem place_idle {q : Port} {r : OutFrame} (hup : q.up = true) (hi : q.transmitter = .idle) (ho : q.outbound = []) :
    q.place r = { q with outbound := [{ r with creditReturn := q.owed }], owed := 0, transmitter := .sendingHead } := by
  have hr : q.outbound ++ [r] = r :: [] := by rw [ho]; rfl
  exact startTransmitter_head (q := { q with outbound := q.outbound ++ [r] }) hup hi hr

/-- Placing a frame behind a transmission. -/
theorem place_working {q : Port} {r : OutFrame} (hw : q.transmitter ≠ .idle) :
    q.place r = { q with outbound := q.outbound ++ [r] } := startTransmitter_working hw

/-- Settles O9: steps 1 and 2 are `beginTaking`; the response is started at once exactly when the transmitter is IDLE, and then, by
the port law, alone. -/
theorem takingMovesTheFrameAndPlacesTheResponse : Obligations.TakingMovesTheFrameAndPlacesTheResponse := by
  intro s u p command f body serve ho hl hserve hport q taken
  refine ⟨rfl, ?_, ?_⟩
  · rw [takeHead_offered ho, hserve]
    rfl
  · have hreserved : q.reserved = 0 := hl.2.2.1
    obtain ⟨-, hup, -⟩ := ho
    have hbegun : (s.beginTaking p).port p = { q with
        reserved := 1, inbound := q.inbound.tail, owed := q.owed + 1, counters := taken } := State.setPort_port_self ..
    rw [State.respond, hport, hbegun]
    congr 1
    let answering : Port := { q with
      reserved := 0, inbound := q.inbound.tail, owed := q.owed + 1, counters := taken.countBody body }
    split
    next hi =>
      refine (place_idle (q := answering) hup hi (outbound_eq_nil_of_idle (q := q) hl hi)).trans ?_
      rw [hreserved]
    next hw =>
      refine (place_working (q := answering) hw).trans ?_
      rw [hreserved]

/-- What a frame carries apart from its credit return, which the start of its transmission fills in (R132). -/
def OutFrame.content (r : OutFrame) : Byte × Byte × Body := (r.dest, r.tag, r.body)

/-- A start of the transmitter moves no frame and changes no content. -/
theorem startTransmitter_content (q : Port) : q.startTransmitter.outbound.map OutFrame.content = q.outbound.map OutFrame.content := by
  unfold Port.startTransmitter
  split
  next ho => rw [ho]; rfl
  next => split <;> rfl
  next => rfl

theorem startTransmitter_inbound (q : Port) : q.startTransmitter.inbound = q.inbound := by
  unfold Port.startTransmitter
  split
  next => rfl
  next => split <;> rfl
  next => rfl

theorem place_content (q : Port) (r : OutFrame) :
    (q.place r).outbound.map OutFrame.content = q.outbound.map OutFrame.content ++ [r.content] := by
  rw [Port.place, startTransmitter_content, List.map_append]
  rfl

theorem place_inbound (q : Port) (r : OutFrame) : (q.place r).inbound = q.inbound := startTransmitter_inbound _

/-- The end of an event leaves a port, or adds a NOTICE to its outbound queue. -/
theorem placeNotice_content (s : State) (p : PortId) :
    (s.placeNotice.port p).inbound = (s.port p).inbound
    ∧ ∃ notices, (s.placeNotice.port p).outbound.map OutFrame.content
          = (s.port p).outbound.map OutFrame.content ++ notices
        ∧ (notices = [] ∨ ∃ q depth newest, notices = [(q, 0, .notice depth newest)]) := by
  rcases placeNotice_or s with hs | ⟨q, p', -, -, -, hs⟩
  · rw [hs]
    exact ⟨rfl, [], (List.append_nil _).symm, .inl rfl⟩
  · have hport : s.placeNotice.port p = if p = p' then (s.port p').place (s.noticeFrame q) else s.port p := by
      rw [hs]
      exact State.setPort_port ..
    rw [hport]
    split
    next h =>
      subst h
      exact ⟨place_inbound .., _, place_content .., .inr ⟨_, _, _, rfl⟩⟩
    next => exact ⟨rfl, [], (List.append_nil _).symm, .inl rfl⟩

/-- Every frame has a command that takes it, which has a service. -/
theorem serviceOf_takingCommand (p : PortId) (f : List Byte) : ∃ serve, serviceOf (takingCommand p f) = some (p, serve) := by
  unfold takingCommand
  split
  case h_7 => split <;> exact ⟨_, rfl⟩
  case h_8 =>
    split
    next code _ _ => unfold mgmtCommandOf; split <;> exact ⟨_, rfl⟩
    next => exact ⟨_, rfl⟩
  all_goals exact ⟨_, rfl⟩

/-- Settles O10: the service leaves the port's queues, the response joins the outbound queue's tail, and a start of the transmitter or
a notice adds no other. -/
theorem everyTakenFrameGetsOneResponse : Obligations.EveryTakenFrameGetsOneResponse := by
  intro s p command f ho hl
  obtain ⟨-, -, -, -, hc⟩ := id ho
  obtain ⟨serve, hi⟩ : ∃ serve, serviceOf command = some (p, serve) := hc ▸ serviceOf_takingCommand p f
  have hsame := (work_of_service (s.beginTaking p) hi hc).samePorts p
  have hbegun : (s.beginTaking p).port p = { s.port p with
      reserved := 1, inbound := (s.port p).inbound.tail, owed := (s.port p).owed + 1
      counters := { (s.port p).counters with framesTaken := bump (s.port p).counters.framesTaken } } :=
    State.setPort_port_self ..
  have hresponse : (((serve f (s.beginTaking p)).1.respond p f (serve f (s.beginTaking p)).2).port p) = Port.place _ _ :=
    State.setPort_port_self ..
  obtain ⟨hin, notices, hout, hn⟩ :=
    placeNotice_content ((serve f (s.beginTaking p)).1.respond p f (serve f (s.beginTaking p)).2) p
  refine ⟨_, (serve f (s.beginTaking p)).2, notices, (exec_service hi s).trans (takeHead_offered ho serve), ?_, ?_, hn⟩
  · rw [afterTaking, hin, hresponse, place_inbound, hsame, hbegun]
  · refine hout.trans ?_
    rw [hresponse, place_content, hsame, hbegun, List.append_assoc]
    rfl

end Sys2Proof.Machine

/-! ### The checks of the request decoder (R2, R5 to R16) -/

namespace Sys2Proof.Machine

/-! #### Check 1 (R7, R168, R170) -/

/-- The kind code of a request kind (R173). -/
def RequestKind.code : RequestKind → Byte
  | .read => 1
  | .write => 2
  | .clear => 3
  | .collect => 4
  | .grant => 5
  | .release => 6
  | .flush => 7
  | .mgmt => 8

theorem requestKindOf_eq_some_iff (b : Byte) (k : RequestKind) : requestKindOf b = some k ↔ b = k.code := by
  cases k <;> revert b <;> decide

theorem length_framePayload {f : List Byte} (h : 20 ≤ f.length) : (framePayload f).length = f.length - 20 := by
  rw [framePayload, List.length_take, List.length_drop]
  simp only [Config.headerBytes, Config.frameOverhead]
  omega

/-- Check 1 as a conjunction, for the kind the frame has. -/
theorem frameWellFormed_iff {f : List Byte} (h : 20 ≤ f.length) :
    frameWellFormed f = true ↔
      ∃ k : RequestKind, byteAt f 0 = k.code ∧ (1 ≤ (byteAt f 1).toNat ∧ (byteAt f 1).toNat ≤ 31)
        ∧ lengthFits k (fieldAt f 6 2) (f.length - 20) = true ∧ flagsFit k (byteAt f 5) = true
        ∧ (k.hasAddress = true ∨ fieldAt f 8 4 = 0) ∧ (k = .collect ∨ byteAt f 12 = 0) ∧ fieldAt f 13 3 = 0 := by
  have hkind (k : RequestKind) : requestKindOf (frameKind f) = some k ↔ byteAt f 0 = k.code := requestKindOf_eq_some_iff _ k
  cases hk : requestKindOf (frameKind f) with
  | none =>
    have hno (k : RequestKind) : byteAt f 0 ≠ k.code := fun h => by simp [(hkind k).mpr h] at hk
    simp [frameWellFormed, hk, hno]
  | some k =>
    have hcode := (hkind k).mp hk
    simp only [frameWellFormed, hk, length_framePayload h, Bool.and_eq_true, Bool.or_eq_true, decide_eq_true_eq, beq_iff_eq,
      and_assoc]
    constructor
    · rintro ⟨h1, h2, h3⟩
      exact ⟨k, hcode, h1, h2, h3⟩
    · rintro ⟨k', hcode', h1, h2, h3⟩
      have hkk : some k = some k' := hk.symm.trans ((hkind k').mpr hcode')
      cases hkk
      exact ⟨h1, h2, h3⟩

/-- Every service makes check 1 first. -/
theorem service_illFormed {i : Instr} {p : PortId} {serve : List Byte → State → Served} {f : List Byte}
    (hi : serviceOf i = some (p, serve)) (hf : frameWellFormed f = false) (s : State) : serve f s = refuse .badFrame s := by
  have hrequest (serve : ReqId → Served) : withRequest f s serve = refuse .badFrame s := by simp [withRequest, hf]
  have hwindow (serve : ReqId → WindowId → Served) : withWindow f s serve = refuse .badFrame s := hrequest _
  have hmanager (unit : ReqId → Answer) : withManager f s unit = refuse .badFrame s := by simp [withManager, hf]
  cases i <;> simp only [serviceOf, Option.some.injEq, Prod.mk.injEq, reduceCtorEq] at hi <;> obtain ⟨rfl, rfl⟩ := hi
  case unknownFrameKind => rfl
  case read | write | clear | grant | release => exact hwindow _
  case collect | flush | flushWithWait => exact hrequest _
  all_goals exact hmanager _

/-- Settles O12: check 1 is spelled out kind by kind, and every service makes it before it looks at anything else. -/
theorem illFormedFrameIsRefused : Obligations.IllFormedFrameIsRefused := by
  refine ⟨fun f hlen => ?_, fun s p command f ho hf => ?_, fun s p f ho => takeHead_refusing ho rfl⟩
  · rw [frameWellFormed_iff hlen]
    constructor
    · rintro ⟨k, hkind, hsource, hlength, hflags, haddress, hticket, hzeros⟩
      refine ⟨hsource, hzeros, ?_⟩
      cases k <;>
        simp only [lengthFits, flagsFit, RequestKind.hasAddress, Config.largestTransfer, Config.largestOperand,
          Bool.and_eq_true, Bool.or_eq_true, decide_eq_true_eq, beq_iff_eq, reduceCtorEq, false_or, Bool.false_eq_true]
          at hlength hflags haddress hticket
      case read => exact .inl ⟨hkind, hlength.1, by omega, hflags, hticket⟩
      case write => exact .inr (.inl ⟨hkind, hlength.1, by omega, hflags, hticket⟩)
      case clear => exact .inr (.inr (.inl ⟨.inl hkind, hlength.1, by omega, hflags, hticket⟩))
      case grant => exact .inr (.inr (.inl ⟨.inr (.inl hkind), hlength.1, by omega, hflags, hticket⟩))
      case release => exact .inr (.inr (.inl ⟨.inr (.inr hkind), hlength.1, by omega, hflags, hticket⟩))
      case collect => exact .inr (.inr (.inr (.inl ⟨hkind, hlength.1, by omega, hflags, haddress⟩)))
      case flush => exact .inr (.inr (.inr (.inr (.inl ⟨hkind, hlength.1, by omega, hflags, haddress, hticket⟩))))
      case mgmt => exact .inr (.inr (.inr (.inr (.inr ⟨hkind, hlength.1, by omega, hflags, haddress, hticket⟩))))
    · rintro ⟨hsource, hzeros, hkinds⟩
      rcases hkinds with ⟨hk, hl, hn, hflags, ht⟩ | ⟨hk, hl, hn, hflags, ht⟩ | ⟨hk | hk | hk, hl, hn, hflags, ht⟩
        | ⟨hk, hl, hn, hflags, ha⟩ | ⟨hk, hl, hn, hflags, ha, ht⟩ | ⟨hk, hl, hn, hflags, ha, ht⟩
      · exact ⟨.read, hk, hsource, by simp [lengthFits, hl, hn], by simp [flagsFit, hflags], .inl rfl, .inr ht, hzeros⟩
      · exact ⟨.write, hk, hsource, by simp [lengthFits, hl, hn], by simp [flagsFit, hflags], .inl rfl, .inr ht, hzeros⟩
      · exact ⟨.clear, hk, hsource, by simp [lengthFits, hl, hn], by simp [flagsFit, hflags], .inl rfl, .inr ht, hzeros⟩
      · exact ⟨.grant, hk, hsource, by simp [lengthFits, hl, hn], by simp [flagsFit, hflags], .inl rfl, .inr ht, hzeros⟩
      · exact ⟨.release, hk, hsource, by simp [lengthFits, hl, hn], by simp [flagsFit, hflags], .inl rfl, .inr ht, hzeros⟩
      · exact ⟨.collect, hk, hsource, by simp [lengthFits, hl, hn], by simp [flagsFit, hflags], .inr ha, .inl rfl, hzeros⟩
      · exact ⟨.flush, hk, hsource, by simp [lengthFits, hl, hn], by simpa [flagsFit] using hflags, .inr ha, .inr ht, hzeros⟩
      · exact ⟨.mgmt, hk, hsource, by simp [lengthFits, hl, hn, Config.largestOperand], by simp [flagsFit, hflags], .inr ha, .inr ht, hzeros⟩
  · obtain ⟨-, -, -, -, hc⟩ := id ho
    obtain ⟨serve, hi⟩ : ∃ serve, serviceOf command = some (p, serve) := hc ▸ serviceOf_takingCommand p f
    rw [exec_service hi]
    exact takeHead_refusing ho (service_illFormed hi hf _)

/-! #### Decode (R2, R10) -/

section Decode
variable {s : State}

theorem matches_iff (e : WindowEntry) (q : ReqId) (page : Nat) :
    e.matches q page = true ↔ e.valid = true ∧ inSet e.requesters q.toNat = true ∧ e.linkBase.toNat ≤ page
      ∧ page < e.linkBase.toNat + e.pageCount := by
  simp only [WindowEntry.matches, Bool.and_eq_true, decide_eq_true_eq, and_assoc]

/-- Two entries that match one request overlap (R19). -/
theorem overlaps_of_matches {a b : WindowEntry} {q : ReqId} {page : Nat} (ha : a.matches q page = true)
    (hb : b.matches q page = true) : a.overlaps b = true := by
  obtain ⟨-, hqa, hla, hua⟩ := (matches_iff ..).mp ha
  obtain ⟨-, hqb, hlb, hub⟩ := (matches_iff ..).mp hb
  have hshared : a.requesters &&& b.requesters ≠ 0 := by
    intro h0
    have hmem : inSet (a.requesters &&& b.requesters) q.toNat = true := by
      rw [inSet, BitVec.getLsbD_and]
      exact Bool.and_eq_true_iff.mpr ⟨hqa, hqb⟩
    rw [h0] at hmem
    simp [inSet] at hmem
  simp only [WindowEntry.overlaps, Bool.and_eq_true, bne_iff_ne, decide_eq_true_eq]
  exact ⟨⟨hshared, by omega⟩, by omega⟩

/-- Under the window law a request matches one entry at most (R2). -/
theorem matches_unique (hl : s.windowsLawful) {v w : WindowId} {q : ReqId} {page : Nat}
    (hv : (s.window v).matches q page = true) (hw : (s.window w).matches q page = true) : v = w := by
  by_contra hne
  have hno := hl.2 v w hne ((matches_iff ..).mp hv).1 ((matches_iff ..).mp hw).1
  rw [overlaps_of_matches hv hw] at hno
  cases hno

theorem matchWindow_eq_some_iff (hl : s.windowsLawful) (q : ReqId) (page : Nat) (w : WindowId) :
    s.matchWindow q page = some w ↔ (s.window w).matches q page = true := by
  constructor
  · intro h
    have hw := List.find?_some h
    exact hw
  · intro hw
    cases hf : s.matchWindow q page with
    | none => exact absurd hw (List.find?_eq_none.mp hf w (List.mem_finRange w))
    | some v =>
      have hv := List.find?_some hf
      rw [matches_unique hl hv hw]

theorem matchWindow_eq_none_iff (q : ReqId) (page : Nat) :
    s.matchWindow q page = none ↔ ∀ w, ¬ (s.window w).matches q page = true := by
  simp [State.matchWindow]

/-- The translation of a page in the link range does not wrap (R2, R18). -/
theorem translate_toNat {e : WindowEntry} {page : Nat} (he : e.inRanges) (hl : e.linkBase.toNat ≤ page)
    (hu : page < e.linkBase.toNat + e.pageCount) :
    (e.translate page).toNat = e.storeBase.toNat + (page - e.linkBase.toNat) := by
  obtain ⟨-, -, -, hs, -⟩ := he
  rw [WindowEntry.translate, BitVec.toNat_ofNat]
  simp only [Config.storePages] at hs
  omega

end Decode

/-- Settles O14: matching is the predicate `fits`, which the window law lets at most one entry satisfy. -/
theorem decodeFindsTheOneWindow : Obligations.DecodeFindsTheOneWindow := by
  intro s q f hl page fits
  have hfits (w : WindowId) : fits w ↔ (s.window w).matches q page = true := (matches_iff ..).symm
  refine ⟨rfl, rfl, fun v w hv hw => ?_, fun w => ?_, ?_, fun w hw => ?_⟩
  · exact matches_unique hl ((hfits v).mp hv) ((hfits w).mp hw)
  · exact (matchWindow_eq_some_iff hl q page w).trans (hfits w).symm
  · exact (matchWindow_eq_none_iff q page).trans (forall_congr' fun w => not_congr (hfits w).symm)
  · obtain ⟨hv, -, hlow, hhigh⟩ := hw
    exact translate_toNat (hl.1 w hv) hlow hhigh

/-! #### Checks 3 to 7, request by request (R10 to R16) -/

section Checks
variable {s : State} {f : List Byte} {q : ReqId} {w : WindowId}

/-- Check 3 fails: no entry matches. -/
theorem takeHead_noWindow {p : PortId} {command : Instr} (h : s.admits p command f q)
    (hw : s.matchWindow q (frameLinkPage f) = none) (serve : List Byte → State → ReqId → WindowId → Served) :
    s.takeHead p command (fun f s => withWindow f s (serve f s)) = .next (s.refusing p f .noWindow) := by
  obtain ⟨ho, hf, hr, hq⟩ := h
  refine takeHead_refusing ho ?_
  have hw' : (s.beginTaking p).matchWindow q (frameLinkPage f) = none := by simpa using hw
  simp only [withWindow, withRequest_admitted hf (s := s.beginTaking p) (by simpa using hr) hq, hw']

theorem windowOnline_eq (s : State) (w : WindowId) : s.windowOnline w = (s.channel (s.channelOf w)).state.online := rfl

theorem grantFits_eq_false (h : ¬ s.mayChange q w) : s.grantFits q w = false :=
  Bool.eq_false_iff.mpr fun hf => h ((grantFits_iff s q w).mp hf)

/-! A READ: right, range on the page, channel. -/

theorem resolvedRead_noRight (h : (s.window w).rights.read = false) : resolvedRead f s q w = refuse .noRight s := by
  simp [resolvedRead, h]

theorem resolvedRead_range (h : (s.window w).rights.read = true) (hp : 256 < frameOffset f + frameLength f) :
    resolvedRead f s q w = refuse .range s := by
  simp [resolvedRead, h, hp]

theorem resolvedRead_offline (h : (s.window w).rights.read = true) (hp : frameOffset f + frameLength f ≤ 256)
    (hc : s.windowOnline w = false) : resolvedRead f s q w = refuse .offline s := by
  simp [resolvedRead, h, Nat.not_lt.mpr hp, hc]

theorem resolvedRead_passed (h : (s.window w).rights.read = true) (hp : frameOffset f + frameLength f ≤ 256)
    (hc : s.windowOnline w = true) :
    resolvedRead f s q w
      = s.readTable q (s.channelOf w) (s.pageOf w f) (frameOffset f) (frameLength f) := by
  simp [resolvedRead, h, Nat.not_lt.mpr hp, hc]

/-! A WRITE: right, grant, channel. -/

theorem resolvedWrite_noRight (h : (s.window w).rights.write = false) : resolvedWrite f s q w = refuse .noRight s := by
  simp [resolvedWrite, h]

theorem resolvedWrite_noGrant (h : (s.window w).rights.write = true) (hg : s.grantFits q w = false) :
    resolvedWrite f s q w = refuse .noGrant s := by
  simp [resolvedWrite, h, hg]

theorem resolvedWrite_offline (h : (s.window w).rights.write = true) (hg : s.grantFits q w = true)
    (hc : s.windowOnline w = false) : resolvedWrite f s q w = refuse .offline s := by
  simp [resolvedWrite, h, hg, hc]

theorem resolvedWrite_passed (h : (s.window w).rights.write = true) (hg : s.grantFits q w = true)
    (hc : s.windowOnline w = true) :
    resolvedWrite f s q w
      = State.noteUse w (s.writePool q (if (s.window w).grantRequired then some w else none) (s.channelOf w)
          (s.pageOf w f) (frameOffset f) (acceptedBytes f)) := by
  simp [resolvedWrite, h, hg, hc]

/-! A CLEAR: right, the whole sector in the window, grant, channel. -/

/-- The sector lies inside the entry's store range (R14). -/
theorem coversSector_iff (e : WindowEntry) (pg : BitVec 16) :
    e.coversSector (sectorOf pg) = true
      ↔ e.storeBase.toNat ≤ pg.toNat / 16 * 16 ∧ pg.toNat / 16 * 16 + 15 < e.storeBase.toNat + e.pageCount := by
  simp only [WindowEntry.coversSector, Bool.and_eq_true, decide_eq_true_eq, sectorOf_toNat]
  rfl

theorem resolvedClear_noRight (h : (s.window w).rights.clear = false) : resolvedClear f s q w = refuse .noRight s := by
  simp [resolvedClear, h]

theorem resolvedClear_range (h : (s.window w).rights.clear = true)
    (hc : (s.window w).coversSector (sectorOf (s.pageOf w f)) = false) : resolvedClear f s q w = refuse .range s := by
  simp [resolvedClear, h, hc]

theorem resolvedClear_noGrant (h : (s.window w).rights.clear = true)
    (hc : (s.window w).coversSector (sectorOf (s.pageOf w f)) = true) (hg : s.grantFits q w = false) :
    resolvedClear f s q w = refuse .noGrant s := by
  simp [resolvedClear, h, hc, hg]

theorem resolvedClear_offline (h : (s.window w).rights.clear = true)
    (hc : (s.window w).coversSector (sectorOf (s.pageOf w f)) = true) (hg : s.grantFits q w = true)
    (ho : s.windowOnline w = false) : resolvedClear f s q w = refuse .offline s := by
  simp [resolvedClear, h, hc, hg, ho]

theorem resolvedClear_passed (h : (s.window w).rights.clear = true)
    (hc : (s.window w).coversSector (sectorOf (s.pageOf w f)) = true) (hg : s.grantFits q w = true)
    (ho : s.windowOnline w = true) :
    resolvedClear f s q w = State.noteUse w (s.clearChannel q (s.channelOf w) (sectorOf (s.pageOf w f))) := by
  simp [resolvedClear, h, hc, hg, ho]

theorem resolvedGrant_noRight (hw : (s.window w).rights.write = false) (hc : (s.window w).rights.clear = false) :
    resolvedGrant f s q w = refuse .noRight s := by
  simp [resolvedGrant, hw, hc]

end Checks

/-- Settles O15, by request and by the first check that fails; steps 1 and 2 of the taking leave what the checks look at. -/
theorem firstFailingCheckNamesTheRefusal : Obligations.FirstFailingCheckNamesTheRefusal := by
  intro s p f q w
  have hwindow : (s.beginTaking p).window w = s.window w := beginTaking_window s p w
  have hcovers : ((s.beginTaking p).window w).coversSector (sectorOf ((s.beginTaking p).pageOf w f))
      = (s.window w).coversSector (sectorOf (s.pageOf w f)) := by simp only [State.pageOf, hwindow]
  have honline (h : (s.channel (s.channelOf w)).state.online = false) : (s.beginTaking p).windowOnline w = false := by
    rw [beginTaking_windowOnline, windowOnline_eq, h]
  have hfits (h : s.mayChange q w) : (s.beginTaking p).grantFits q w = true := by
    rw [beginTaking_grantFits, grantFits_iff]
    exact h
  have hunfit (h : ¬ s.mayChange q w) : (s.beginTaking p).grantFits q w = false := by
    rw [beginTaking_grantFits, grantFits_eq_false h]
  refine ⟨fun command hc h hw => ?_, fun h => ⟨fun hr => ?_, fun hr hp => ?_, fun hr hp ho => ?_⟩,
    fun h => ⟨fun hr => ?_, fun hr hg => ?_, fun hr hg ho => ?_⟩,
    fun h => ⟨fun hr => ?_, fun hr hi => ?_, fun hr hi hg => ?_, fun hr hi hg ho => ?_⟩, fun h hw hc => ?_⟩
  · simp only [List.mem_cons, List.not_mem_nil, or_false] at hc
    rcases hc with rfl | rfl | rfl | rfl | rfl
    · exact takeHead_noWindow h hw resolvedRead
    · exact takeHead_noWindow h hw resolvedWrite
    · exact takeHead_noWindow h hw resolvedClear
    · exact takeHead_noWindow h hw resolvedGrant
    · exact takeHead_noWindow h hw resolvedRelease
  · rw [exec_read_resolved h, resolvedRead_noRight (by rwa [hwindow])]; rfl
  · rw [exec_read_resolved h, resolvedRead_range (by rwa [hwindow]) hp]; rfl
  · rw [exec_read_resolved h, resolvedRead_offline (by rwa [hwindow]) hp (honline ho)]; rfl
  · rw [exec_write_resolved h, resolvedWrite_noRight (by rwa [hwindow])]; rfl
  · rw [exec_write_resolved h, resolvedWrite_noGrant (by rwa [hwindow]) (hunfit hg)]; rfl
  · rw [exec_write_resolved h, resolvedWrite_offline (by rwa [hwindow]) (hfits hg) (honline ho)]; rfl
  · rw [exec_clear_resolved h, resolvedClear_noRight (by rwa [hwindow])]; rfl
  · rw [exec_clear_resolved h, resolvedClear_range (by rwa [hwindow]) ?_]; rfl
    rw [hcovers, Bool.eq_false_iff]
    exact fun hc => hi ((coversSector_iff ..).mp hc)
  · rw [exec_clear_resolved h, resolvedClear_noGrant (by rwa [hwindow]) ?_ (hunfit hg)]; rfl
    rw [hcovers]
    exact (coversSector_iff ..).mpr hi
  · rw [exec_clear_resolved h, resolvedClear_offline (by rwa [hwindow]) ?_ (hfits hg) (honline ho)]; rfl
    rw [hcovers]
    exact (coversSector_iff ..).mpr hi
  · rw [exec_grant_resolved h, resolvedGrant_noRight (by rwa [hwindow]) (by rwa [hwindow])]; rfl

end Sys2Proof.Machine

/-! ### READ and tickets (R44, R50 to R53, R75, R78) -/

namespace Sys2Proof.Machine

/-! #### Updates of one record, one after the other -/

section Updates
variable (s : State)

theorem setChannel_setChannel (c : ChannelId) (x y : Channel) : (s.setChannel c x).setChannel c y = s.setChannel c y := by
  cases c <;> rfl

theorem setChannel_setSlot (c : ChannelId) (x : Channel) (i : SlotId) (y : Option Slot) :
    (s.setChannel c x).setSlot i y = (s.setSlot i y).setChannel c x := by
  cases c <;> rfl

theorem setChannel_setBuffer (c : ChannelId) (x : Channel) (b : BufferId) (y : Option Buffer) :
    (s.setChannel c x).setBuffer b y = (s.setBuffer b y).setChannel c x := by
  cases c <;> rfl

end Updates

/-- The lowest number with a property. -/
theorem find?_finRange_lowest {n : Nat} {p : Fin n → Bool} {i : Fin n} (hi : p i = true) (hlow : ∀ j, j < i → p j = false) :
    (List.finRange n).find? p = some i := by
  rw [List.find?_eq_some_iff_getElem]
  refine ⟨hi, i.val, by simp, by simp, fun j hj => ?_⟩
  simpa using hlow ⟨j, by omega⟩ hj

theorem find?_finRange_none {n : Nat} {p : Fin n → Bool} (h : ∀ i, p i = false) : (List.finRange n).find? p = none := by
  simp [h]

/-! #### Starting and appending an operation (R75, R78) -/

section Append
variable {s : State} {c : ChannelId} {k : OpKind}

/-- On an IDLE channel with an empty queue the operation is the head, and its first attempt starts. -/
theorem appendOp_idle (hi : (s.channel c).state = .idle) (hq : (s.channel c).queue = []) :
    s.appendOp c k = (s.setChannel c ((s.channel c).withOp k (s.requestOf k) s.params.opTimeout)).attemptStarted ⟨k, 1⟩
      ((s.channel c).number + 1) := by
  have hrequest (x : Channel) : (s.setChannel c x).requestOf k = s.requestOf k := by
    cases k <;> simp only [State.requestOf, State.setChannel_buffer]
  simp only [State.appendOp, hi, if_true, hq, List.nil_append, State.startHead, State.setChannel_channel_self,
    setChannel_setChannel, hrequest, State.setChannel_params, Channel.started, Channel.withOp]
  rfl

/-- Elsewhere the operation waits at the tail. -/
theorem appendOp_waits (hi : (s.channel c).state ≠ .idle) :
    s.appendOp c k = s.setChannel c ((s.channel c).withOp k (s.requestOf k) s.params.opTimeout) := by
  simp only [State.appendOp, hi, if_false, Channel.withOp]

theorem queue_eq_nil_of_idle {ch : Channel} (hl : ch.lawful) (hi : ch.state = .idle) : ch.queue = [] := by
  obtain ⟨-, -, hrest, -⟩ := hl
  exact (hrest (by rw [hi]; rfl)).1

end Append

/-! #### READ -/

section Read
variable {s : State} {q : ReqId} {c : ChannelId} {pg : BitVec 16} {o n : Nat}

/-- Every position of the range is staged: the overlay is the bytes. -/
theorem overlay_eq_map_some {bytes : List Byte} (hn : bytes.length = n)
    (h : ∀ i, i < n → s.overlayAt c pg (o + i) = bytes[i]?) : s.overlay c pg o n = bytes.map some := by
  apply List.ext_getElem
  · simp [State.overlay, hn]
  · intro i hi hj
    have hlt : i < n := by simpa [State.overlay] using hi
    simp only [State.overlay, List.getElem_map, List.getElem_range]
    rw [h i hlt, List.getElem?_eq_getElem (by omega)]

theorem overlay_all_false {k : Nat} (hk : k < n) (h : s.overlayAt c pg (o + k) = none) :
    (s.overlay c pg o n).all Option.isSome = false := by
  rw [List.all_eq_false]
  exact ⟨none, List.mem_map.mpr ⟨k, List.mem_range.mpr hk, h⟩, by simp⟩

/-- An overlay hit (R52). -/
theorem readTable_hit {bytes : List Byte} (h : s.overlay c pg o n = bytes.map some) :
    s.readTable q c pg o n = (s.countOverlayHit, .data bytes) := by
  have hall : (bytes.map some).all Option.isSome = true := by simp
  have hid : (bytes.map some).filterMap id = bytes := by simp
  simp only [State.readTable, h, hall, if_true, hid]

/-- A READ without a slot or without a queue place (R53). -/
theorem readTable_busy (h : (s.overlay c pg o n).all Option.isSome = false)
    (hno : s.slotFor q = none ∨ s.queueHasRoom c = false) : s.readTable q c pg o n = refuseBusy s := by
  simp only [State.readTable, h, Bool.false_eq_true, if_false]
  split
  next i hi =>
    have hroom : s.queueHasRoom c = false := hno.resolve_left (by simp [hi])
    simp [hroom]
  next => rfl

/-- A deferred READ (R53). -/
theorem readTable_deferred {i : SlotId} (h : (s.overlay c pg o n).all Option.isSome = false) (hi : s.slotFor q = some i)
    (hroom : s.queueHasRoom c = true) :
    s.readTable q c pg o n
      = (((s.allocate i q (.read ⟨c, pg, o, n, s.overlay c pg o n, none⟩)).appendOp c (.fetch pg o n i)).countDeferred,
          .defer s.issuedTicket) := by
  simp only [State.readTable, h, Bool.false_eq_true, if_false, hi, hroom, if_true]

theorem slotFor_eq_some {i : SlotId} (ho : s.ownedSlots q < s.params.slotsPerReq) (hi : s.slot i = none)
    (hlow : ∀ j, j < i → s.slot j ≠ none) : s.slotFor q = some i := by
  rw [State.slotFor, if_pos ho]
  refine find?_finRange_lowest (by simp [hi]) fun j hj => ?_
  simpa [Option.isSome_iff_ne_none] using hlow j hj

theorem slotFor_eq_none (h : s.params.slotsPerReq ≤ s.ownedSlots q ∨ ∀ i, s.slot i ≠ none) : s.slotFor q = none := by
  rw [State.slotFor]
  split
  next ho =>
    have hfull := h.resolve_left (by omega)
    exact find?_finRange_none fun i => by simpa [Option.isSome_iff_ne_none] using hfull i
  next => rfl

theorem slotFor_some {i : SlotId} (h : s.slotFor q = some i) : s.slot i = none := by
  rw [State.slotFor] at h
  split at h
  next => simpa using List.find?_some h
  next => cases h

theorem queueHasRoom_iff (s : State) (c : ChannelId) : s.queueHasRoom c = true ↔ (s.channel c).queue.length < 16 := by
  rw [State.queueHasRoom, decide_eq_true_eq]

theorem allocate_channel (i : SlotId) (k : SlotWork) (c : ChannelId) : (s.allocate i q k).channel c = s.channel c := by
  cases c <;> rfl

theorem allocate_slot_self (i : SlotId) (k : SlotWork) : (s.allocate i q k).slot i = some ⟨s.issuedTicket, q, k, .fetching⟩ :=
  State.setSlot_slot_self ..

theorem allocate_setSlot (i : SlotId) (k : SlotWork) (y : Option Slot) :
    (s.allocate i q k).setSlot i y = { s.setSlot i y with ticketCounter := nextTicket s.issuedTicket } := by
  simp only [State.allocate, State.setSlot, Vector.set_set]

/-- The slot and the channel of a deferred READ: on an IDLE channel the attempt starts and the slot takes its number (R53, R78). -/
theorem deferred_eq {i : SlotId} {overlay : List (Option Byte)} (hl : (s.channel c).lawful) :
    (s.allocate i q (.read ⟨c, pg, o, n, overlay, none⟩)).appendOp c (.fetch pg o n i)
      = { (s.setSlot i (some ⟨s.issuedTicket, q, .read ⟨c, pg, o, n, overlay,
            if (s.channel c).state = .idle then some ((s.channel c).number + 1) else none⟩, .fetching⟩)).setChannel c
            ((s.channel c).withOp (.fetch pg o n i) (.fetch pg o n) s.params.opTimeout) with
          ticketCounter := nextTicket s.issuedTicket } := by
  by_cases hi : (s.channel c).state = .idle
  · rw [appendOp_idle (by rwa [allocate_channel]) (by rw [allocate_channel]; exact queue_eq_nil_of_idle hl hi),
      allocate_channel, if_pos hi]
    simp only [State.attemptStarted, State.slotAttempt, State.setChannel_slot, allocate_slot_self, Slot.attemptStarted]
    rw [setChannel_setSlot, allocate_setSlot]
    cases c <;> rfl
  · rw [appendOp_waits (by rwa [allocate_channel]), allocate_channel, if_neg hi]
    cases c <;> rfl

end Read

/-- Settles O16: the checks pass, and the overlay is the bytes. -/
theorem readOfStagedBytesAnswersData : Obligations.ReadOfStagedBytesAnswersData := by
  intro s p f q w bytes h hr hp hc hlen hbytes
  have hover : (s.beginTaking p).overlay (s.channelOf w) (s.pageOf w f) (frameOffset f) (frameLength f) = bytes.map some := by
    rw [beginTaking_overlay, overlay_eq_map_some hlen hbytes]
  have hpassed := resolvedRead_passed (s := s.beginTaking p) (f := f) (q := q) (w := w) (by rwa [beginTaking_window]) hp
    (by rw [beginTaking_windowOnline, windowOnline_eq, hc])
  simp only [State.channelOf, State.pageOf, beginTaking_window] at hpassed
  rw [exec_read_resolved h, hpassed, readTable_hit hover, State.countOverlayHit, beginTaking_counters]

/-- Settles O17: the checks pass, the overlay has a gap, and slot and queue place are there. -/
theorem readOfUnstagedBytesIsDeferred : Obligations.ReadOfUnstagedBytesIsDeferred := by
  intro s p f q w i h hr hp hc hl hgap howned hi hlow hroom c ch kind read
  obtain ⟨k, hk, hnone⟩ := hgap
  have hpassed := resolvedRead_passed (s := s.beginTaking p) (f := f) (q := q) (w := w) (by rwa [beginTaking_window]) hp
    (by rw [beginTaking_windowOnline, windowOnline_eq, hc])
  simp only [State.channelOf, State.pageOf, beginTaking_window] at hpassed
  rw [exec_read_resolved h, hpassed, readTable_deferred (i := i), deferred_eq]
  · simp only [beginTaking_channel, beginTaking_issuedTicket, beginTaking_params, beginTaking_overlay]
    rw [State.countDeferred]
    have hcounters (t : State) (x : Option Slot) (y : Channel) :
        State.counters { (t.setSlot i x).setChannel c y with ticketCounter := nextTicket s.issuedTicket } = t.counters :=
      State.setChannel_counters ..
    rw [hcounters, beginTaking_counters]
    rfl
  · rwa [beginTaking_channel]
  · rw [beginTaking_overlay]; exact overlay_all_false hk hnone
  · rw [beginTaking_slotFor]; exact slotFor_eq_some howned hi hlow
  · rw [beginTaking_queueHasRoom]; exact (queueHasRoom_iff ..).mpr hroom

/-! #### Tickets (R50) -/

/-- The next ticket, counted from 1 in a ring of 255. -/
theorem nextTicket_toNat (t : BitVec 8) : (nextTicket t).toNat = if t.toNat = 255 then 1 else t.toNat + 1 := by
  revert t; decide

theorem iterate_nextTicket_toNat {t : BitVec 8} (ht : t ≠ 0) (m : Nat) :
    (nextTicket^[m] t).toNat = (t.toNat - 1 + m) % 255 + 1 := by
  have hpos : 1 ≤ t.toNat := by
    by_contra h
    exact ht (BitVec.eq_of_toNat_eq (by simpa using h))
  induction m with
  | zero =>
    have := t.isLt
    simp only [Function.iterate_zero, id]
    omega
  | succ m ih =>
    rw [Function.iterate_succ_apply', nextTicket_toNat, ih]
    split <;> omega

theorem iterate_nextTicket_ne_zero {t : BitVec 8} (ht : t ≠ 0) (m : Nat) : nextTicket^[m] t ≠ 0 := by
  intro h
  have hn := iterate_nextTicket_toNat ht m
  rw [h] at hn
  simp at hn

/-- Eight numbers on from one counter are all different. -/
theorem iterate_nextTicket_injective {t : BitVec 8} (ht : t ≠ 0) {m k : Nat} (hm : m < 8) (hk : k < 8)
    (h : nextTicket^[m] t = nextTicket^[k] t) : m = k := by
  have hn := congrArg BitVec.toNat h
  rw [iterate_nextTicket_toNat ht, iterate_nextTicket_toNat ht] at hn
  omega

section Search
variable {s : State}

theorem ticketLive_iff (t : BitVec 8) : s.ticketLive t = true ↔ ∃ i, s.ticketOf i = some t := by
  simp only [State.ticketLive, List.any_eq_true, Vector.mem_toList_iff, Vector.mem_iff_getElem, State.ticketOf, State.slot,
    Fin.getElem_fin]
  constructor
  · rintro ⟨o, ⟨i, hi, rfl⟩, h⟩
    refine ⟨⟨i, hi⟩, ?_⟩
    split at h
    next x hx => rw [hx, Option.map_some, beq_iff_eq.mp h]
    next => cases h
  · rintro ⟨i, h⟩
    obtain ⟨x, hx, rfl⟩ := Option.map_eq_some_iff.mp h
    exact ⟨some x, ⟨i, i.isLt, hx⟩, by simp⟩

/-- The search stops at the first number that no live slot holds, or when its tries are used up. -/
theorem searchTicket_eq (tries : Nat) (t : BitVec 8) :
    ∃ k, k ≤ tries ∧ s.searchTicket tries t = nextTicket^[k] t
      ∧ (∀ m, m < k → s.ticketLive (nextTicket^[m] t) = true)
      ∧ (k < tries → s.ticketLive (nextTicket^[k] t) = false) := by
  induction tries generalizing t with
  | zero => exact ⟨0, Nat.le_refl 0, rfl, fun m hm => absurd hm (Nat.not_lt_zero m), fun h => absurd h (Nat.lt_irrefl 0)⟩
  | succ tries ih =>
    rw [State.searchTicket]
    split
    next hlive =>
      obtain ⟨k, hk, heq, hbefore, hstop⟩ := ih (nextTicket t)
      refine ⟨k + 1, by omega, heq, fun m hm => ?_, fun h => hstop (by omega)⟩
      cases m with
      | zero => exact hlive
      | succ m => exact hbefore m (by omega)
    next hfree => exact ⟨0, Nat.zero_le _, rfl, fun m hm => absurd hm (Nat.not_lt_zero m), fun _ => by simpa using hfree⟩

/-- With a slot free, eight tickets cannot all be held. -/
theorem exists_ticket_not_live {t : BitVec 8} (ht : t ≠ 0) {i : SlotId} (hi : s.slot i = none)
    (hall : ∀ m, m < 8 → s.ticketLive (nextTicket^[m] t) = true) : False := by
  choose j hj using fun m : Fin 8 => (ticketLive_iff _).mp (hall m m.isLt)
  have hinj : Function.Injective j := by
    intro m k h
    have hsame := (hj m).symm.trans ((congrArg s.ticketOf h).trans (hj k))
    exact Fin.ext (iterate_nextTicket_injective ht m.isLt k.isLt (Option.some.inj hsame))
  obtain ⟨m, hm⟩ := Finite.injective_iff_surjective.mp hinj i
  have hheld := hj m
  rw [hm, State.ticketOf, hi] at hheld
  cases hheld

/-- The ticket issued: the first of the eight numbers from the counter on that no live slot holds. -/
theorem issuedTicket_spec {i : SlotId} (ht : s.ticketCounter ≠ 0) (hi : s.slot i = none) :
    ∃ k, k < 8 ∧ s.issuedTicket = nextTicket^[k] s.ticketCounter ∧ s.ticketLive s.issuedTicket = false
      ∧ ∀ m, m < k → s.ticketLive (nextTicket^[m] s.ticketCounter) = true := by
  obtain ⟨k, hk, heq, hbefore, hstop⟩ := searchTicket_eq (s := s) 8 s.ticketCounter
  have hlt : k < 8 := by
    by_contra h
    have hk8 : k = 8 := by omega
    subst hk8
    exact exists_ticket_not_live ht hi hbefore
  refine ⟨k, hlt, heq, ?_, hbefore⟩
  rw [State.issuedTicket, heq]
  exact hstop hlt

end Search

/-- Settles O18: eight numbers from the counter on are different, so one of them is not held while a slot is FREE. -/
theorem issuedTicketIsTheFirstNotHeld : Obligations.IssuedTicketIsTheFirstNotHeld := by
  intro s i ht hi
  obtain ⟨k, hk, heq, hfree, hbefore⟩ := issuedTicket_spec ht hi
  refine ⟨k, hk, heq, fun j hj => ?_, fun m hm => (ticketLive_iff _).mp (hbefore m hm), ?_, nextTicket_toNat _⟩
  · rw [(ticketLive_iff _).mpr ⟨j, hj⟩] at hfree
    cases hfree
  · rw [heq]
    exact iterate_nextTicket_ne_zero ht k

/-! #### The snapshot overlay (R44) -/

/-- A fold that keeps the last value found. -/
theorem foldl_or_eq {α β : Type} (g : α → Option β) (l : List α) (init : Option β) :
    l.foldl (fun acc a => (g a).or acc) init = (l.reverse.findSome? g).or init := by
  induction l generalizing init with
  | nil => simp
  | cons a l ih =>
    rw [List.foldl_cons, ih, List.reverse_cons, List.findSome?_append, Option.or_assoc]
    congr 1
    simp only [List.findSome?_cons, List.findSome?_nil]
    cases g a <;> rfl

theorem findSome?_filter_eq {α β : Type} (p : α → Bool) (g : α → Option β) (l : List α) :
    (l.filter p).findSome? g = l.findSome? fun a => if p a then g a else none := by
  induction l with
  | nil => rfl
  | cons a l ih => cases h : p a <;> simp [List.findSome?_cons, h, ih]

/-- The byte a live buffer of the page has at a position. -/
def State.pageByte (s : State) (c : ChannelId) (pg : BitVec 16) (pos : Nat) (b : BufferId) : Option Byte :=
  match s.buffer b with
  | some x => if x.isOn c pg then cellAt x.staged pos else none
  | none => none

/-- The overlay is the byte of the last buffer in the order of openings that has one. -/
theorem overlayAt_eq (s : State) (c : ChannelId) (pg : BitVec 16) (pos : Nat) :
    s.overlayAt c pg pos = s.openOrder.reverse.findSome? (s.pageByte c pg pos) := by
  rw [State.overlayAt, foldl_or_eq, Option.or_none, State.liveOn, State.liveWith, ← List.filter_reverse, findSome?_filter_eq]
  congr 1
  funext b
  cases hb : s.buffer b <;> simp [State.bufferHas, State.stagedAt, State.pageByte, hb]

theorem isOn_iff (x : Buffer) (c : ChannelId) (pg : BitVec 16) : x.isOn c pg = true ↔ x.channel = c ∧ x.page = pg := by
  simp [Buffer.isOn]

theorem pageByte_eq_none {s : State} {c : ChannelId} {pg : BitVec 16} {pos : Nat} {b : BufferId}
    (h : ∀ x, s.buffer b = some x → x.channel = c → x.page = pg → cellAt x.staged pos = none) :
    s.pageByte c pg pos b = none := by
  unfold State.pageByte
  split
  next x hx =>
    split
    next hon => exact h x hx ((isOn_iff ..).mp hon).1 ((isOn_iff ..).mp hon).2
    next => rfl
  next => rfl

/-- Settles O19: from the newest buffer on, the first that tags the position gives the byte. -/
theorem overlayShowsTheNewestStagedByte : Obligations.OverlayShowsTheNewestStagedByte := by
  intro s c pg pos v
  constructor
  · intro older newer b x horder hx hc hp hv hnewer
    have hb : s.pageByte c pg pos b = some v := by
      have hon : x.isOn c pg = true := (isOn_iff ..).mpr ⟨hc, hp⟩
      simp only [State.pageByte, hx, hon, if_true, hv]
    have hnone : newer.reverse.findSome? (s.pageByte c pg pos) = none := by
      rw [List.findSome?_eq_none_iff]
      exact fun b' hb' => pageByte_eq_none (hnewer b' (List.mem_reverse.mp hb'))
    rw [overlayAt_eq, horder, List.reverse_append, List.reverse_cons, List.append_assoc, List.findSome?_append, hnone,
      List.singleton_append, List.findSome?_cons, hb]
    rfl
  · intro hnone
    rw [overlayAt_eq, List.findSome?_eq_none_iff]
    exact fun b hb => pageByte_eq_none (hnone b (List.mem_reverse.mp hb))

end Sys2Proof.Machine

/-! ### WRITE and CLEAR (R13, R27 to R30, R92, R115) -/

namespace Sys2Proof.Machine

/-! #### Live buffers by a property -/

section Live
variable {s : State} {b : BufferId} {x : Buffer} {test : Buffer → Bool}

theorem bufferHas_of_some (hx : s.buffer b = some x) : s.bufferHas b test = test x := by
  simp only [State.bufferHas, hx]

theorem bufferHas_iff : s.bufferHas b test = true ↔ ∃ x, s.buffer b = some x ∧ test x = true := by
  cases hx : s.buffer b <;> simp [State.bufferHas, hx]

theorem mem_liveWith : b ∈ s.liveWith test ↔ b ∈ s.openOrder ∧ ∃ x, s.buffer b = some x ∧ test x = true := by
  rw [State.liveWith, List.mem_filter, bufferHas_iff]

theorem mem_liveOn {c : ChannelId} {pg : BitVec 16} :
    b ∈ s.liveOn c pg ↔ b ∈ s.openOrder ∧ ∃ x, s.buffer b = some x ∧ x.channel = c ∧ x.page = pg := by
  simp only [State.liveOn, mem_liveWith, isOn_iff]

/-- The oldest live buffer with a property. -/
theorem head?_liveWith : (s.liveWith test).head? = s.openOrder.find? fun b => s.bufferHas b test := List.head?_filter

/-- The one OPEN buffer of a page is the one a WRITE finds. -/
theorem find?_open_eq_some {c : ChannelId} {pg : BitVec 16} (hmem : b ∈ s.openOrder) (hx : s.buffer b = some x)
    (hc : x.channel = c) (hp : x.page = pg) (hopen : x.isOpen = true)
    (honly : ∀ b' x', s.buffer b' = some x' → x'.channel = c → x'.page = pg → x'.isOpen = true → b' = b) :
    (s.liveOn c pg).find? (fun b => s.bufferHas b Buffer.isOpen) = some b := by
  cases hf : (s.liveOn c pg).find? fun b => s.bufferHas b Buffer.isOpen with
  | none =>
    have hno := List.find?_eq_none.mp hf b (mem_liveOn.mpr ⟨hmem, x, hx, hc, hp⟩)
    rw [bufferHas_of_some hx] at hno
    exact absurd hopen hno
  | some b' =>
    obtain ⟨x', hx', hopen'⟩ := bufferHas_iff.mp (by have := List.find?_some hf; exact this)
    obtain ⟨-, y, hy, hyc, hyp⟩ := mem_liveOn.mp (List.mem_of_find?_eq_some hf)
    rw [hx'] at hy
    cases hy
    rw [honly b' x' hx' hyc hyp hopen']

theorem isOpen_iff (x : Buffer) : x.isOpen = true ↔ ∃ idle limit, x.phase = .opened idle limit := by
  unfold Buffer.isOpen
  cases x.phase <;> simp

end Live

/-! #### The bytes and the grant of an accepted request -/

section Accepted
variable {s t : State} {f : List Byte}

/-- A well-formed WRITE carries as many bytes as its length field says (R7, R170). -/
theorem length_writePayload {p p' : PortId} (hf : frameWellFormed f = true) (hc : takingCommand p f = .write p') :
    (framePayload f).length = frameLength f ∧ 1 ≤ frameLength f ∧ frameLength f ≤ 64 := by
  have h := lengthFits_of_wellFormed hf (requestKindOf_write hc)
  simp only [lengthFits, Bool.and_eq_true, decide_eq_true_eq, beq_iff_eq] at h
  exact ⟨h.2, h.1.1, h.1.2⟩

/-- The accepted bytes are those up to the page end (R13). -/
theorem acceptedBytes_eq (h : (framePayload f).length = frameLength f) :
    acceptedBytes f = (framePayload f).take (min (frameLength f) (256 - frameOffset f)) := by
  rw [acceptedBytes, ← h]
  simp only [Config.pageBytes]
  rw [List.take_eq_take_iff]
  omega

theorem length_acceptedBytes (h : (framePayload f).length = frameLength f) :
    (acceptedBytes f).length = min (frameLength f) (256 - frameOffset f) := by
  rw [acceptedBytes_eq h, List.length_take]
  omega

/-- The decoder's note, in the words of the statements: the holder's timer starts again (R115). -/
theorem used_eq_grantUsed {w : WindowId} {q : ReqId} (h : s.mayChange q w) : s.used w = s.grantUsed w q := by
  unfold State.used State.grantUsed
  split
  next hr =>
    obtain ⟨g, hg, hq⟩ := Option.map_eq_some_iff.mp (h hr)
    simp only [State.useGrant, hg, State.startGrant, hq]
  next => rfl

theorem DataOnly.window (h : DataOnly s t) (w : WindowId) : t.window w = s.window w := by
  simp only [State.window, h.windows]

/-- Work of the pool leaves check 6. -/
theorem mayChange_of_grants {w : WindowId} {q : ReqId} (hd : DataOnly s t) (hg : t.grants = s.grants) (h : s.mayChange q w) :
    t.mayChange q w := by
  intro hr
  rw [hd.window] at hr
  simpa only [State.holderOf, State.grantOf, hg] using h hr

end Accepted

/-! #### The staging pool's part of a WRITE (R27) -/

section Pool
variable {s : State} {q : ReqId} {gw : Option WindowId} {c : ChannelId} {pg : BitVec 16} {o : Nat} {bytes : List Byte}
  {b : BufferId} {x : Buffer}

theorem writePool_merged (hb : (s.liveOn c pg).find? (fun b => s.bufferHas b Buffer.isOpen) = some b) :
    s.writePool q gw c pg o bytes = (s.mergeInto b q gw o bytes, .ack bytes.length) := by
  simp only [State.writePool, hb]

theorem writePool_opened (hnone : (s.liveOn c pg).find? (fun b => s.bufferHas b Buffer.isOpen) = none)
    (hlive : (s.liveOn c pg).length < 2) (hfree : s.freeBuffer = some b) :
    s.writePool q gw c pg o bytes = ((s.openBuffer b c pg).mergeInto b q gw o bytes, .ack bytes.length) := by
  simp only [State.writePool, hnone, Config.buffersPerPage, if_pos hlive, hfree]

theorem writePool_full (hnone : (s.liveOn c pg).find? (fun b => s.bufferHas b Buffer.isOpen) = none)
    (hlive : (s.liveOn c pg).length < 2) (hfree : s.freeBuffer = none) :
    s.writePool q gw c pg o bytes = refuseBusy s.pressureSeal := by
  simp only [State.writePool, hnone, Config.buffersPerPage, if_pos hlive, hfree]

theorem writePool_busy (hnone : (s.liveOn c pg).find? (fun b => s.bufferHas b Buffer.isOpen) = none)
    (hlive : 2 ≤ (s.liveOn c pg).length) : s.writePool q gw c pg o bytes = refuseBusy s := by
  simp only [State.writePool, hnone, Config.buffersPerPage, if_neg (Nat.not_lt.mpr hlive)]

theorem find?_open_eq_none (h : ∀ b ∈ s.liveOn c pg, s.bufferHas b Buffer.isOpen = false) :
    (s.liveOn c pg).find? (fun b => s.bufferHas b Buffer.isOpen) = none := by
  rw [List.find?_eq_none]
  intro b hb
  simp [h b hb]

theorem freeBuffer_eq_some (hb : s.buffer b = none) (hlow : ∀ b', b' < b → s.buffer b' ≠ none) : s.freeBuffer = some b := by
  refine find?_finRange_lowest (by simp [hb]) fun j hj => ?_
  simpa [Option.isSome_iff_ne_none] using hlow j hj

theorem freeBuffer_eq_none (h : ∀ b, s.buffer b ≠ none) : s.freeBuffer = none :=
  find?_finRange_none fun b => by simpa [Option.isSome_iff_ne_none] using h b

/-- The merge, and the seal of a full tag set (R29). -/
theorem mergeInto_eq (hx : s.buffer b = some x) :
    s.mergeInto b q gw o bytes
      = if (x.merged q gw o bytes s.params.coalesceIdle).staged.length = 256 then
          (s.setBuffer b (some (x.merged q gw o bytes s.params.coalesceIdle))).sealBuffer b
        else s.setBuffer b (some (x.merged q gw o bytes s.params.coalesceIdle)) := by
  simp only [State.mergeInto, State.modifyBuffer, hx, State.bufferHas, State.setBuffer_buffer_self, beq_iff_eq]

/-- The pressure seal is a seal of the oldest OPEN buffer (R30). -/
theorem pressureSeal_eq (h : s.openOrder.find? (fun b => s.bufferHas b Buffer.isOpen) = some b) :
    s.pressureSeal = s.sealBuffer b := by
  rw [← head?_liveWith] at h
  obtain ⟨rest, hl⟩ := List.head?_eq_some_iff.mp h
  simp only [State.pressureSeal, hl]

theorem pressureSeal_none (h : s.openOrder.find? (fun b => s.bufferHas b Buffer.isOpen) = none) : s.pressureSeal = s := by
  rw [← head?_liveWith, List.head?_eq_none_iff] at h
  simp only [State.pressureSeal, h]

end Pool

/-! #### A WRITE that passes its checks -/

section Taken
variable {s : State} {p : PortId} {f : List Byte} {q : ReqId} {w : WindowId}

theorem exec_write_passed (h : s.resolves p (.write p) f q w) (hr : (s.window w).rights.write = true)
    (hg : s.mayChange q w) (hc : (s.channel (s.channelOf w)).state.online = true) :
    exec (.write p) s = .next (afterTaking p f (State.noteUse w ((s.beginTaking p).writePool q
      (if (s.window w).grantRequired then some w else none) (s.channelOf w) (s.pageOf w f) (frameOffset f)
      (acceptedBytes f)))) := by
  have hpassed := resolvedWrite_passed (s := s.beginTaking p) (f := f) (q := q) (w := w) (by rwa [beginTaking_window])
    (by rw [beginTaking_grantFits, grantFits_iff]; exact hg) (by rw [beginTaking_windowOnline, windowOnline_eq, hc])
  simp only [State.channelOf, State.pageOf, beginTaking_window] at hpassed
  rw [exec_write_resolved h, hpassed]

theorem exec_clear_passed (h : s.resolves p (.clear p) f q w) (hr : (s.window w).rights.clear = true)
    (hi : (s.window w).coversSector (sectorOf (s.pageOf w f)) = true) (hg : s.mayChange q w)
    (hc : (s.channel (s.channelOf w)).state.online = true) :
    exec (.clear p) s = .next (afterTaking p f (State.noteUse w ((s.beginTaking p).clearChannel q (s.channelOf w)
      (sectorOf (s.pageOf w f))))) := by
  have hpassed := resolvedClear_passed (s := s.beginTaking p) (f := f) (q := q) (w := w) (by rwa [beginTaking_window])
    (by simpa only [State.pageOf, beginTaking_window] using hi)
    (by rw [beginTaking_grantFits, grantFits_iff]; exact hg) (by rw [beginTaking_windowOnline, windowOnline_eq, hc])
  simp only [State.channelOf, State.pageOf, beginTaking_window] at hpassed
  rw [exec_clear_resolved h, hpassed]

theorem exec_read_passed (h : s.resolves p (.read p) f q w) (hr : (s.window w).rights.read = true)
    (hp : frameOffset f + frameLength f ≤ 256) (hc : (s.channel (s.channelOf w)).state.online = true) :
    exec (.read p) s = .next (afterTaking p f ((s.beginTaking p).readTable q (s.channelOf w) (s.pageOf w f)
      (frameOffset f) (frameLength f))) := by
  have hpassed := resolvedRead_passed (s := s.beginTaking p) (f := f) (q := q) (w := w) (by rwa [beginTaking_window]) hp
    (by rw [beginTaking_windowOnline, windowOnline_eq, hc])
  simp only [State.channelOf, State.pageOf, beginTaking_window] at hpassed
  rw [exec_read_resolved h, hpassed]

theorem noteUse_ack_eq (t : State) (n : Nat) (w : WindowId) : State.noteUse w (t, .ack n) = (t.used w, .ack n) := rfl

theorem beginTaking_mayChange : (s.beginTaking p).mayChange q w ↔ s.mayChange q w := by
  simp only [State.mayChange, beginTaking_window, beginTaking_holderOf]

end Taken

/-- Settles O20: the OPEN buffer of the page is the one the pool finds, and the merged record is the one named. -/
theorem writeMergesIntoTheOpenBuffer : Obligations.WriteMergesIntoTheOpenBuffer := by
  intro s p f q w b x idle limit h hr hg hc hmem hx hxc hxp hphase honly n y merged
  have hlen := length_writePayload h.1.2.1 h.1.1.2.2.2.2
  have hfind : ((s.beginTaking p).liveOn (s.channelOf w) (s.pageOf w f)).find?
      (fun b => (s.beginTaking p).bufferHas b Buffer.isOpen) = some b := by
    simp only [beginTaking_liveOn, beginTaking_bufferHas]
    exact find?_open_eq_some hmem hx hxc hxp ((isOpen_iff x).mpr ⟨idle, limit, hphase⟩) honly
  have hy : x.merged q (if (s.window w).grantRequired then some w else none) (frameOffset f) (acceptedBytes f)
      (s.beginTaking p).params.coalesceIdle = y := by
    simp only [Buffer.merged, hphase, acceptedBytes_eq hlen.1, beginTaking_params]
    cases hreq : (s.window w).grantRequired <;> simp [y, n, hreq]
  have hmerge := mergeInto_eq (s := s.beginTaking p) (q := q)
    (gw := if (s.window w).grantRequired then some w else none) (o := frameOffset f) (bytes := acceptedBytes f)
    (b := b) (x := x) (by rwa [beginTaking_buffer])
  have hused : (if y.staged.length = 256 then merged.sealBuffer b else merged).mayChange q w := by
    have hwork : WorkOnly (s.beginTaking p) (if y.staged.length = 256 then merged.sealBuffer b else merged) := by
      split
      next => exact (workOnly_setBuffer ..).trans (workOnly_sealBuffer ..)
      next => exact workOnly_setBuffer ..
    exact mayChange_of_grants hwork.dataOnly hwork.grants (beginTaking_mayChange.mpr hg)
  rw [exec_write_passed h hr hg hc, writePool_merged hfind, noteUse_ack_eq, hmerge, hy, used_eq_grantUsed hused,
    length_acceptedBytes hlen.1]

/-- Settles O21: no OPEN buffer is found, and the lowest FREE one takes at most 64 bytes, too few to be sealed. -/
theorem writeOpensTheLowestFreeBuffer : Obligations.WriteOpensTheLowestFreeBuffer := by
  intro s p f q w b h hr hg hc hlive hclosed hb hlow n y
  have hlen := length_writePayload h.1.2.1 h.1.1.2.2.2.2
  have hnone : ((s.beginTaking p).liveOn (s.channelOf w) (s.pageOf w f)).find?
      (fun b => (s.beginTaking p).bufferHas b Buffer.isOpen) = none :=
    find?_open_eq_none (by simpa using hclosed)
  have hfree : (s.beginTaking p).freeBuffer = some b := by
    rw [beginTaking_freeBuffer]
    exact freeBuffer_eq_some hb hlow
  have hopened : ((s.beginTaking p).openBuffer b (s.channelOf w) (s.pageOf w f)).buffer b = some _ :=
    State.setBuffer_buffer_self ..
  have hy : Buffer.merged ⟨s.channelOf w, s.pageOf w f, (s.beginTaking p).openCounter, [], 0, 0,
      .opened (s.beginTaking p).params.coalesceIdle ((s.beginTaking p).params.openLimit * Config.microsPerMilli), 0⟩ q
      (if (s.window w).grantRequired then some w else none) (frameOffset f) (acceptedBytes f)
      (s.beginTaking p).params.coalesceIdle = y := by
    simp only [Buffer.merged, acceptedBytes_eq hlen.1, beginTaking_params, beginTaking_openCounter]
    cases hreq : (s.window w).grantRequired <;> simp [y, n, hreq]
  have hshort : ¬ y.staged.length = 256 := by
    have hcells := length_setCells_le [] (frameOffset f) ((framePayload f).take n)
    simp only [List.length_nil, List.length_take] at hcells
    simp only [y]
    omega
  have hmerge := mergeInto_eq (q := q) (gw := if (s.window w).grantRequired then some w else none) (o := frameOffset f)
    (bytes := acceptedBytes f) hopened
  rw [exec_write_passed h hr hg hc, writePool_opened hnone (by simpa using hlive) hfree, noteUse_ack_eq, hmerge]
  have hparams : ((s.beginTaking p).openBuffer b (s.channelOf w) (s.pageOf w f)).params.coalesceIdle
      = (s.beginTaking p).params.coalesceIdle := rfl
  rw [hparams, hy, if_neg hshort, length_acceptedBytes hlen.1]
  have hset : ((s.beginTaking p).openBuffer b (s.channelOf w) (s.pageOf w f)).setBuffer b (some y)
      = { (s.beginTaking p).setBuffer b (some y) with
          openOrder := s.openOrder ++ [b], openCounter := s.openCounter + 1 } := by
    simp only [State.openBuffer, State.setBuffer, Vector.set_set, beginTaking_openOrder, beginTaking_openCounter]
  rw [hset, used_eq_grantUsed]
  exact beginTaking_mayChange.mpr hg

/-- Settles O22, by where the pool or the read slot table finds no room. -/
theorem busyRefusals : Obligations.BusyRefusals := by
  intro s p f q w hc counted live
  constructor
  · intro h hr hg hclosed
    have hnone : ((s.beginTaking p).liveOn (s.channelOf w) (s.pageOf w f)).find?
        (fun b => (s.beginTaking p).bufferHas b Buffer.isOpen) = none :=
      find?_open_eq_none (by simpa using hclosed)
    rw [exec_write_passed h hr hg hc]
    constructor
    · intro hlive
      rw [writePool_busy hnone (by simpa using hlive)]
      rfl
    · intro hlive hfull
      rw [writePool_full hnone (by simpa using hlive) (freeBuffer_eq_none (by simpa using hfull))]
      constructor
      · intro b hb
        rw [pressureSeal_eq (b := b) (by simpa using hb)]
        rfl
      · intro hno
        rw [pressureSeal_none (by simpa using hno)]
        rfl
  · intro h hr hp hgap hfull
    obtain ⟨k, hk, hnone⟩ := hgap
    rw [exec_read_passed h hr hp hc, readTable_busy]
    · rfl
    · rw [beginTaking_overlay]
      exact overlay_all_false hk hnone
    · rw [beginTaking_slotFor, beginTaking_queueHasRoom]
      rcases hfull with hown | hslots | hqueue
      · exact .inl (slotFor_eq_none (.inl hown))
      · exact .inl (slotFor_eq_none (.inr hslots))
      · refine .inr (Bool.eq_false_iff.mpr fun hroom => ?_)
        have := (queueHasRoom_iff ..).mp hroom
        omega

/-! #### CLEAR (R92) -/

section Clear
variable {s : State} {c : ChannelId}

theorem sectorOf_eq_iff (a b : BitVec 16) : sectorOf a = sectorOf b ↔ a.toNat / 16 = b.toNat / 16 := by
  rw [← sectorOf_toNat, ← sectorOf_toNat, BitVec.toNat_inj]

/-- A live buffer lies in the sector of a page (R92). -/
theorem sectorLive_iff {pg : BitVec 16} :
    s.sectorLive c (sectorOf pg) = true ↔ ∃ b x, b ∈ s.openOrder ∧ s.buffer b = some x ∧ x.channel = c
      ∧ x.page.toNat / 16 = pg.toNat / 16 := by
  simp only [State.sectorLive, Bool.not_eq_true', List.isEmpty_eq_false_iff_exists_mem, mem_liveWith, Bool.and_eq_true,
    beq_iff_eq, sectorOf_eq_iff]
  constructor
  · rintro ⟨b, hb, x, hx, hc, hp⟩; exact ⟨b, x, hb, hx, hc, hp⟩
  · rintro ⟨b, x, hb, hx, hc, hp⟩; exact ⟨b, hb, x, hx, hc, hp⟩

/-- A CLEAR appended to a lawful channel has no owner's record to tell. -/
theorem appendOp_clear {sector : BitVec 12} {q : ReqId} (hl : (s.channel c).lawful) :
    s.appendOp c (.clear sector q)
      = s.setChannel c ((s.channel c).withOp (.clear sector q) (.clear sector) s.params.opTimeout) := by
  by_cases hi : (s.channel c).state = .idle
  · rw [appendOp_idle hi (queue_eq_nil_of_idle hl hi)]
    rfl
  · rw [appendOp_waits hi]
    rfl

variable {q : ReqId} {sector : BitVec 12}

theorem clearChannel_conflict (h : s.sectorLive c sector = true) : s.clearChannel q c sector = refuse .conflict s := by
  simp only [State.clearChannel, h, if_true]

theorem clearChannel_busy (h : s.sectorLive c sector = false) (hroom : s.queueHasRoom c = false) :
    s.clearChannel q c sector = refuseBusy s := by
  simp only [State.clearChannel, h, hroom, Bool.false_eq_true, if_false]

theorem clearChannel_joins (h : s.sectorLive c sector = false) (hroom : s.queueHasRoom c = true) :
    s.clearChannel q c sector = (s.appendOp c (.clear sector q), .ack 16) := by
  simp only [State.clearChannel, h, hroom, Bool.false_eq_true, if_false, if_true]

end Clear

/-- Settles O23: the three cases of R92 after the checks. -/
theorem clearJoinsTheQueueOfAFreeSector : Obligations.ClearJoinsTheQueueOfAFreeSector := by
  intro s p f q w h hr hlow hhigh hg hc hl c sector conflict
  have hlive : (s.beginTaking p).sectorLive (s.channelOf w) (sectorOf (s.pageOf w f)) = true ↔ conflict := by
    rw [beginTaking_sectorLive]
    exact sectorLive_iff
  have hfree (hno : ¬ conflict) : (s.beginTaking p).sectorLive (s.channelOf w) (sectorOf (s.pageOf w f)) = false :=
    Bool.eq_false_iff.mpr fun h => hno (hlive.mp h)
  have hqueue : (s.beginTaking p).queueHasRoom (s.channelOf w) = true ↔ (s.channel c).queue.length < 16 := by
    rw [beginTaking_queueHasRoom]
    exact queueHasRoom_iff ..
  rw [exec_clear_passed h hr ((coversSector_iff ..).mpr ⟨hlow, hhigh⟩) hg hc]
  refine ⟨fun hyes => ?_, fun hno hfull => ?_, fun hno hroom => ?_⟩
  · rw [clearChannel_conflict (hlive.mpr hyes)]
    rfl
  · rw [clearChannel_busy (hfree hno) (Bool.eq_false_iff.mpr fun h => by have := hqueue.mp h; omega), refuseBusy,
      State.countBusy, beginTaking_counters]
    rfl
  · have happend := appendOp_clear (s := s.beginTaking p) (c := s.channelOf w) (sector := sectorOf (s.pageOf w f)) (q := q)
      (by rw [beginTaking_channel]; exact hl)
    rw [beginTaking_channel, beginTaking_params] at happend
    rw [clearChannel_joins (hfree hno) (hqueue.mpr hroom), noteUse_ack_eq, happend, used_eq_grantUsed]
    · rfl
    · have hwork := workOnly_setChannel (s.beginTaking p) (s.channelOf w)
        ((s.channel (s.channelOf w)).withOp (.clear (sectorOf (s.pageOf w f)) q) (.clear (sectorOf (s.pageOf w f)))
          s.params.opTimeout)
      exact mayChange_of_grants hwork.dataOnly hwork.grants (beginTaking_mayChange.mpr hg)

end Sys2Proof.Machine

/-! ### FLUSH, SEAL_ALL and FLUSH with wait (R34, R64, R65, R106) -/

namespace Sys2Proof.Machine

/-- Settles O27: the buffers sealed are those the two operations list, in the order of openings. -/
theorem flushAndSealAllSealInOrder : Obligations.FlushAndSealAllSealInOrder := by
  intro s p f bs
  constructor
  · rintro q h rfl
    rw [exec_flush_admitted h, State.flushPool, beginTaking_openBy]
    rfl
  · rintro h hr rfl
    rw [exec_obeyed (rule := sealAllRule) rfl h rfl (.inl hr)]
    simp only [sealAllRule, answerOk, beginTaking_liveWith, bytesOf_one]
    rfl

section FlushWait
variable {s : State} {q : ReqId}

/-- The first case of R64: data of the requester that cannot be committed. -/
theorem cannotCommit_iff :
    s.cannotCommit q = true ↔ ∃ b x, b ∈ s.openOrder ∧ s.buffer b = some x ∧ inSet x.writers q.toNat = true
      ∧ (x.isHeld = true ∨ x.isOpen = true ∧ (s.channel x.channel).state.online = false) := by
  simp only [State.cannotCommit, Bool.not_eq_true', List.isEmpty_eq_false_iff_exists_mem, mem_liveWith, Buffer.writtenBy,
    Bool.and_eq_true, Bool.or_eq_true]
  constructor
  · rintro ⟨b, hb, x, hx, hw, h⟩; exact ⟨b, x, hb, hx, hw, h⟩
  · rintro ⟨b, x, hb, hx, hw, h⟩; exact ⟨b, hb, x, hx, hw, h⟩

theorem flushWait_stuck (h : s.cannotCommit q = true) : s.flushWait q = refuse .storeError s := by
  simp only [State.flushWait, h, if_true]

theorem flushWait_nothing (h : s.cannotCommit q = false) (hw : s.waitedBy q = []) : s.flushWait q = (s, .ack 0) := by
  simp only [State.flushWait, h, hw, Bool.false_eq_true, if_false, List.isEmpty_nil, if_true]

theorem flushWait_busy (h : s.cannotCommit q = false) (hw : s.waitedBy q ≠ []) (hi : s.slotFor q = none) :
    s.flushWait q = refuseBusy s := by
  simp only [State.flushWait, h, Bool.false_eq_true, if_false, List.isEmpty_iff, hw, hi]

theorem flushWait_waits {i : SlotId} (h : s.cannotCommit q = false) (hw : s.waitedBy q ≠ []) (hi : s.slotFor q = some i) :
    s.flushWait q = ((s.sealAllOf (s.openBy q)).allocate i q (.sync (setOfList 12 ((s.waitedBy q).map Fin.val))),
      .defer s.issuedTicket) := by
  simp only [State.flushWait, h, Bool.false_eq_true, if_false, List.isEmpty_iff, hw, hi]

/-- The wait set of R65 has exactly the buffers listed. -/
theorem inSet_waitSet (bs : List BufferId) (b : BufferId) :
    inSet (setOfList 12 (bs.map Fin.val)) b = decide (b ∈ bs) := by
  have hmem : (b.val ∈ bs.map Fin.val) ↔ b ∈ bs := by simp [Fin.val_inj]
  rw [inSet_setOfList, decide_eq_true b.isLt, Bool.true_and, decide_eq_decide]
  exact hmem

end FlushWait

/-! A seal moves no ticket, so the next ticket is the same before and after it. -/

/-- Slots as far as the tickets go. -/
theorem issuedTicket_congr {s t : State} (hc : t.ticketCounter = s.ticketCounter) (h : ∀ i, t.ticketOf i = s.ticketOf i) :
    t.issuedTicket = s.issuedTicket := by
  have hlive (k : BitVec 8) : t.ticketLive k = s.ticketLive k := by
    rw [Bool.eq_iff_iff, ticketLive_iff, ticketLive_iff]
    simp only [h]
  have hsearch (n : Nat) (k : BitVec 8) : t.searchTicket n k = s.searchTicket n k := by
    induction n generalizing k with
    | zero => rfl
    | succ n ih => simp only [State.searchTicket, hlive, ih]
  rw [State.issuedTicket, State.issuedTicket, hsearch, hc]

/-- t has the live slots of s, each with its ticket and requester. -/
structure SameTickets (s t : State) : Prop where
  slots : ∀ i, (t.slot i).map (fun x => (x.ticket, x.requester)) = (s.slot i).map fun x => (x.ticket, x.requester)

section Tickets
variable {s t u : State}

theorem SameTickets.refl (s : State) : SameTickets s s := ⟨fun _ => rfl⟩

theorem SameTickets.trans (h : SameTickets s t) (k : SameTickets t u) : SameTickets s u :=
  ⟨fun i => (k.slots i).trans (h.slots i)⟩

theorem SameTickets.ticketOf (h : SameTickets s t) (i : SlotId) : t.ticketOf i = s.ticketOf i := by
  have hi := congrArg (Option.map Prod.fst) (h.slots i)
  rw [Option.map_map, Option.map_map] at hi
  exact hi

theorem sameTickets_of_slots (h : t.slots = s.slots) : SameTickets s t :=
  ⟨fun i => by simp only [State.slot, h]⟩

theorem sameTickets_setSlot {i : SlotId} {x y : Slot} (hx : s.slot i = some x) (ht : y.ticket = x.ticket)
    (hq : y.requester = x.requester) : SameTickets s (s.setSlot i (some y)) := by
  refine ⟨fun j => ?_⟩
  rw [State.setSlot_slot]
  split
  next hj => subst hj; simp [hx, ht, hq]
  next => rfl

theorem mapSlots_slot (s : State) (f : Slot → Slot) (i : SlotId) : (s.mapSlots f).slot i = (s.slot i).map f := by
  simp [State.mapSlots, State.slot]

theorem sameTickets_mapSlots {f : Slot → Slot} (h : ∀ x, (f x).ticket = x.ticket ∧ (f x).requester = x.requester) :
    SameTickets s (s.mapSlots f) := by
  refine ⟨fun i => ?_⟩
  rw [mapSlots_slot, Option.map_map]
  congr 1
  funext x
  simp only [Function.comp, (h x).1, (h x).2]

theorem sameTickets_modifyBuffer (s : State) (b : BufferId) (f : Buffer → Buffer) : SameTickets s (s.modifyBuffer b f) := by
  unfold State.modifyBuffer
  split
  next => exact sameTickets_of_slots rfl
  next => exact .refl s

theorem sameTickets_setChannel (s : State) (c : ChannelId) (x : Channel) : SameTickets s (s.setChannel c x) :=
  sameTickets_of_slots (State.setChannel_slots ..)

theorem memberHeld_keeps (b : BufferId) (cause : HoldCause) (hold : Micros) (x : Slot) :
    (x.memberHeld b cause hold).ticket = x.ticket ∧ (x.memberHeld b cause hold).requester = x.requester := by
  unfold Slot.memberHeld
  split
  next => split <;> exact ⟨rfl, rfl⟩
  next => exact ⟨rfl, rfl⟩

theorem sameTickets_holdBuffer (s : State) (b : BufferId) (cause : HoldCause) : SameTickets s (s.holdBuffer b cause) :=
  (sameTickets_modifyBuffer s b _).trans (sameTickets_mapSlots (memberHeld_keeps b cause _))

theorem attemptStarted_keeps (n : BitVec 8) (x : Slot) :
    (x.attemptStarted n).ticket = x.ticket ∧ (x.attemptStarted n).requester = x.requester := by
  unfold Slot.attemptStarted
  split <;> exact ⟨rfl, rfl⟩

theorem sameTickets_attemptStarted (s : State) (op : Op) (n : BitVec 8) : SameTickets s (s.attemptStarted op n) := by
  unfold State.attemptStarted State.slotAttempt
  split
  next =>
    split
    next x hx => exact sameTickets_setSlot hx (attemptStarted_keeps n x).1 (attemptStarted_keeps n x).2
    next => exact .refl s
  next => exact sameTickets_modifyBuffer ..
  next => exact .refl s

theorem sameTickets_startHead (s : State) (c : ChannelId) : SameTickets s (s.startHead c) := by
  unfold State.startHead
  split
  next => exact .refl s
  next => exact (sameTickets_setChannel ..).trans (sameTickets_attemptStarted ..)

theorem sameTickets_appendOp (s : State) (c : ChannelId) (k : OpKind) : SameTickets s (s.appendOp c k) := by
  unfold State.appendOp
  simp only
  split
  next => exact (sameTickets_setChannel ..).trans (sameTickets_startHead ..)
  next => exact sameTickets_setChannel ..

theorem sameTickets_enqueueUpTo (c : ChannelId) (n : Nat) (s : State) : SameTickets s (State.enqueueUpTo c n s) := by
  induction n generalizing s with
  | zero => exact .refl s
  | succ n ih =>
    unfold State.enqueueUpTo
    split
    next b x _ =>
      refine SameTickets.trans ?_ (ih _)
      exact SameTickets.trans (t := { s.setBuffer b (some { x with phase := .queued, attempts := 0 }) with
        sealList := s.sealList.filter (· ≠ b) }) (sameTickets_of_slots rfl) (sameTickets_appendOp ..)
    next => exact .refl s

theorem sameTickets_tryEnqueue (s : State) (c : ChannelId) : SameTickets s (s.tryEnqueue c) := sameTickets_enqueueUpTo ..

theorem sameTickets_sealBuffer (s : State) (b : BufferId) : SameTickets s (s.sealBuffer b) := by
  unfold State.sealBuffer
  split
  next x _ =>
    split
    next =>
      split
      next => exact SameTickets.trans (t := s.listSealed b x) (sameTickets_of_slots rfl) (sameTickets_tryEnqueue ..)
      next => exact sameTickets_holdBuffer ..
    next => exact .refl s
  next => exact .refl s

theorem sameTickets_sealAllOf (bs : List BufferId) (s : State) : SameTickets s (s.sealAllOf bs) := by
  unfold State.sealAllOf
  induction bs generalizing s with
  | nil => exact .refl s
  | cons b bs ih => exact (sameTickets_sealBuffer s b).trans (ih _)

/-- The ticket of a FLUSH with wait is the one found before its seals. -/
theorem sealAllOf_issuedTicket (bs : List BufferId) (s : State) : (s.sealAllOf bs).issuedTicket = s.issuedTicket :=
  issuedTicket_congr (workOnly_sealAllOf ..).ticketCounter (sameTickets_sealAllOf bs s).ticketOf

end Tickets

/-- Settles O28, by the first case of R64; the wait set is the set of the list of waited buffers. -/
theorem flushWithWaitTakesTheFirstCase : Obligations.FlushWithWaitTakesTheFirstCase := by
  intro s p f q h mine stuck
  have hstuck : (s.beginTaking p).cannotCommit q = true ↔ stuck := by
    rw [beginTaking_cannotCommit]
    exact cannotCommit_iff
  have hfree (hno : ¬ stuck) : (s.beginTaking p).cannotCommit q = false := Bool.eq_false_iff.mpr fun h => hno (hstuck.mp h)
  have hwaited : (s.beginTaking p).waitedBy q = mine fun x => !x.isHeld := beginTaking_waitedBy s p q
  have hopen : (s.beginTaking p).openBy q = mine Buffer.isOpen := beginTaking_openBy s p q
  rw [exec_flushWithWait_admitted h]
  refine ⟨fun hyes => ?_, fun hno hempty => ?_, fun hno hsome hfull => ?_, fun i hno hsome howned hi hlow => ?_⟩
  · rw [flushWait_stuck (hstuck.mpr hyes)]
    rfl
  · rw [flushWait_nothing (hfree hno) (hwaited.trans hempty)]
  · have hslot : (s.beginTaking p).slotFor q = none := by
      rw [beginTaking_slotFor]
      exact slotFor_eq_none hfull
    rw [flushWait_busy (hfree hno) (by rwa [hwaited]) hslot, refuseBusy, State.countBusy, beginTaking_counters]
  · have hslot : (s.beginTaking p).slotFor q = some i := by
      rw [beginTaking_slotFor]
      exact slotFor_eq_some howned hi hlow
    refine ⟨_, inSet_waitSet _, ?_⟩
    rw [flushWait_waits (hfree hno) (by rwa [hwaited]) hslot, hopen, hwaited, State.allocate, sealAllOf_issuedTicket,
      beginTaking_issuedTicket]
    rfl

end Sys2Proof.Machine

/-! ### Codes and layouts of frames (R167 to R173) -/

namespace Sys2Proof.Machine

/-! #### Numbers as bytes, and the fields of a header -/

theorem bytesOf_two (x : Nat) : bytesOf 2 x = [BitVec.ofNat 8 (x / 256), BitVec.ofNat 8 x] := by
  simp [bytesOf, List.range_succ]

theorem bytesOf_three (x : Nat) :
    bytesOf 3 x = [BitVec.ofNat 8 (x / 65536), BitVec.ofNat 8 (x / 256), BitVec.ofNat 8 x] := by
  simp [bytesOf, List.range_succ]

theorem bytesOf_four (x : Nat) :
    bytesOf 4 x
      = [BitVec.ofNat 8 (x / 16777216), BitVec.ofNat 8 (x / 65536), BitVec.ofNat 8 (x / 256), BitVec.ofNat 8 x] := by
  simp [bytesOf, List.range_succ]

section Fields
variable {f : List Byte} {i : Nat}

theorem getElem?_eq_byteAt (h : i < f.length) : f[i]? = some (byteAt f i) := by
  simp [byteAt, List.getElem?_eq_getElem h]

theorem fieldAt_two (h : i + 2 ≤ f.length) : fieldAt f i 2 = (byteAt f i).toNat * 256 + (byteAt f (i + 1)).toNat := by
  rw [fieldAt, take_drop_eq_byteAt h]
  simp [numberOf, List.range_succ]

theorem fieldAt_three (h : i + 3 ≤ f.length) :
    fieldAt f i 3 = (byteAt f i).toNat * 65536 + (byteAt f (i + 1)).toNat * 256 + (byteAt f (i + 2)).toNat := by
  rw [fieldAt, take_drop_eq_byteAt h]
  simp only [numberOf, List.range_succ, List.range_zero, List.nil_append, List.cons_append, List.map_cons, List.map_nil,
    List.foldl_cons, List.foldl_nil, Nat.add_zero]
  omega

theorem fieldAt_four (h : i + 4 ≤ f.length) :
    fieldAt f i 4 = (byteAt f i).toNat * 16777216 + (byteAt f (i + 1)).toNat * 65536 + (byteAt f (i + 2)).toNat * 256
      + (byteAt f (i + 3)).toNat := by
  rw [fieldAt, take_drop_eq_byteAt h]
  simp only [numberOf, List.range_succ, List.range_zero, List.nil_append, List.cons_append, List.map_cons, List.map_nil,
    List.foldl_cons, List.foldl_nil, Nat.add_zero]
  omega

end Fields

/-! #### The command that takes a MGMT frame -/

/-- The commands of the operation codes (R173). -/
def mgmtCommands (p : PortId) : List (Nat × Instr) :=
  [(0x10, .windowLoad p), (0x11, .windowClear p), (0x12, .windowRead p), (0x18, .grantRevoke p),
    (0x20, .bufferRead p), (0x21, .bufferRetry p), (0x22, .bufferDiscard p), (0x23, .sealAll p),
    (0x30, .channelOffline p), (0x31, .channelOnline p), (0x40, .eventsRead p), (0x41, .countersRead p),
    (0x42, .countersClear p), (0x50, .paramSet p), (0x51, .paramRead p), (0x52, .mgmtSetWrite p),
    (0x53, .statusRead p), (0x5F, .restart p)]

section MgmtCommand
variable {p : PortId} {f : List Byte} {code : Byte}

theorem mgmtCommandOf_eq {op : Nat} {command : Instr} (h : (op, command) ∈ mgmtCommands p) (hc : code.toNat = op) :
    mgmtCommandOf p code = command := by
  have htable : ∀ x ∈ mgmtCommands p, code.toNat = x.1 → mgmtCommandOf p code = x.2 := by
    simp only [mgmtCommands, List.forall_mem_cons]
    simp +contextual [mgmtCommandOf]
  exact htable _ h hc

/-- The operand size, the service during a restart and the rule of a management operation. -/
def mgmtRuleOf : Instr → Option (Nat × Bool × (ReqId → List Byte → State → Answer))
  | .windowLoad _ => some (16, false, windowLoadRule)
  | .windowClear _ => some (1, false, windowClearRule)
  | .windowRead _ => some (1, false, windowReadRule)
  | .grantRevoke _ => some (1, false, grantRevokeRule)
  | .bufferRead _ => some (1, false, bufferReadRule)
  | .bufferRetry _ => some (1, false, bufferRetryRule)
  | .bufferDiscard _ => some (1, false, bufferDiscardRule)
  | .sealAll _ => some (0, false, sealAllRule)
  | .channelOffline _ => some (1, false, channelOfflineRule)
  | .channelOnline _ => some (1, false, channelOnlineRule)
  | .eventsRead _ => some (1, true, eventsReadRule)
  | .countersRead _ => some (1, false, countersReadRule)
  | .countersClear _ => some (0, false, countersClearRule)
  | .paramSet _ => some (3, false, paramSetRule)
  | .paramRead _ => some (0, false, paramReadRule)
  | .mgmtSetWrite _ => some (4, false, mgmtSetWriteRule)
  | .statusRead _ => some (0, true, statusReadRule)
  | .restart _ => some (0, true, restartRule)
  | _ => none

/-- A code outside the table names no operation, and one in it names the operand size, the rule and the service. -/
theorem mgmtCommandOf_service (p : PortId) (code : Byte) :
    mgmtShape code.toNat = none ∧ mgmtCommandOf p code = .unknownMgmtOperation p
      ∨ ∃ size always rule, mgmtShape code.toNat = some (size, always)
        ∧ mgmtRuleOf (mgmtCommandOf p code) = some (size, always, rule)
        ∧ serviceOf (mgmtCommandOf p code) = some (p, serveMgmt size always rule) := by
  unfold mgmtCommandOf
  split
  case h_19 =>
    left
    refine ⟨?_, rfl⟩
    unfold mgmtShape
    split <;> simp_all
  all_goals
    next h =>
      rw [h]
      exact .inr ⟨_, _, _, rfl, rfl, rfl⟩

theorem takingCommand_mgmt (h : requestKindOf (frameKind f) = some .mgmt) {rest : List Byte} (hp : framePayload f = code :: rest) :
    takingCommand p f = mgmtCommandOf p code := by
  simp [takingCommand, h, hp]

end MgmtCommand

theorem RequestKind.code_range (k : RequestKind) : 1 ≤ k.code.toNat ∧ k.code.toNat ≤ 8 := by cases k <;> decide

/-- Settles O29: layouts by the bytes at their positions, commands by the tables of codes, and what is sent body by body. -/
theorem frameCodesAndLayouts : Obligations.FrameCodesAndLayouts := by
  refine ⟨fun x => ⟨bytesOf_one x, bytesOf_two x, bytesOf_three x, bytesOf_four x⟩, fun f hlen => ?_,
    fun p f code rest => ?_, ⟨fun r => ?_, fun q => ?_⟩, fun bs => ?_⟩
  · exact ⟨fun i hi => getElem?_eq_byteAt hi, rfl, rfl, rfl, rfl, rfl, fieldAt_two (by omega), fieldAt_four (by omega), rfl, rfl⟩
  · have hkind (k : Nat) (hk : (byteAt f 0).toNat = k) : requestKindOf (frameKind f) = requestKindOf (BitVec.ofNat 8 k) := by
      rw [← hk, BitVec.ofNat_toNat, BitVec.setWidth_eq]
      rfl
    refine ⟨?_, fun h => ?_, fun h => ?_, fun h hp => ?_, fun h hp => ⟨fun op command hc hop => ?_, fun hnone => ?_⟩⟩
    · have htable : ∀ x ∈ [(1, Instr.read p), (2, .write p), (3, .clear p), (4, .collect p), (5, .grant p), (6, .release p)],
          (byteAt f 0).toNat = x.1 → takingCommand p f = x.2 := by
        simp only [List.forall_mem_cons]
        simp +contextual [takingCommand, requestKindOf, frameKind]
      exact fun kind command hmem hk => htable _ hmem hk
    · simp [takingCommand, requestKindOf, frameKind, h, frameWait, frameFlags]
    · have hnone : requestKindOf (frameKind f) = none := by
        rw [Option.eq_none_iff_forall_ne_some]
        intro k hk
        have hcode := congrArg BitVec.toNat ((requestKindOf_eq_some_iff _ k).mp hk)
        change (byteAt f 0).toNat = _ at hcode
        have := k.code_range
        omega
      simp [takingCommand, hnone]
    · simp [takingCommand, requestKindOf, frameKind, h, hp]
    · rw [takingCommand_mgmt (hkind 8 h) hp]
      exact mgmtCommandOf_eq hc hop
    · rw [takingCommand_mgmt (hkind 8 h) hp]
      rcases mgmtCommandOf_service p code with ⟨-, hc⟩ | ⟨_, _, _, hs, -, -⟩
      · exact hc
      · rw [hnone] at hs
        cases hs
  · obtain ⟨dest, tag, credits, body⟩ := r
    cases body with
    | data | defer | ack | notice => simp [OutFrame.bytes, sentFrame, Body.kindCode, Body.payload, Body.ticketField, bytesOf_one]
    | refuse reason =>
      cases reason <;>
        simp [OutFrame.bytes, sentFrame, Body.kindCode, Body.payload, Body.ticketField, bytesOf_one, Reason.code]
    | mgmtReply op result operand =>
      cases result <;>
        simp [OutFrame.bytes, sentFrame, Body.kindCode, Body.payload, Body.ticketField, bytesOf_one, MgmtResult.code]
  · refine ⟨fun h => ?_, fun r rest h ho => ?_, fun n h => ?_⟩
    · simp [Port.onLanes, h]
    · simp [Port.onLanes, h, ho]
    · simp [Port.onLanes, h, creditFrameBytes, sentFrame, bytesOf_one]
  · rw [withTrailer, crc32, crcBits_eq_foldl]
    rfl

end Sys2Proof.Machine

/-! ### The checks of a MGMT frame, and the operations that only read (R9, R22, R99, R141, R147, R149, R164) -/

namespace Sys2Proof.Machine

/-! #### Fields of an operand -/

theorem idOfCode_id {n : Nat} (k : Fin n) (hn : n ≤ 256) : idOfCode n (BitVec.ofNat 8 k) = some k := by
  have hk : k.val % 256 = k.val := Nat.mod_eq_of_lt (by omega)
  simp [idOfCode, hk]

theorem idOfCode_eq_none {n : Nat} {b : Byte} (h : n ≤ b.toNat) : idOfCode n b = none := dif_neg (by omega)

theorem channelOfCode_code (c : ChannelId) : channelOfCode (if c = .sc0 then 0 else 1) = some c := by cases c <;> rfl

theorem channelOfCode_eq_none {b : Byte} (h : 1 < b.toNat) : channelOfCode b = none := by
  unfold channelOfCode
  split
  next => omega
  next => omega
  next => rfl

/-! #### The first check that fails answers -/

section Mgmt
variable {s : State} {p : PortId} {command : Instr} {f : List Byte}

/-- The operation code of a well-formed MGMT frame tells the command that takes it. -/
theorem command_of_mgmt (ho : s.offers p command f) (hf : frameWellFormed f = true) (hk : byteAt f 0 = 8) :
    command = mgmtCommandOf p (frameOpCode f) := by
  have hkind : requestKindOf (frameKind f) = some .mgmt := (requestKindOf_eq_some_iff _ .mgmt).mpr hk
  have hlen := lengthFits_of_wellFormed hf hkind
  obtain ⟨-, -, -, -, htake⟩ := ho
  cases hp : framePayload f with
  | nil => simp [lengthFits, hp] at hlen; omega
  | cons code rest =>
    rw [← htake, takingCommand_mgmt hkind hp, frameOpCode, hp]
    rfl

/-- A MGMT frame is served by its unit, which answers BAD_OPERAND for an unknown code and else by the operation's rule. -/
theorem service_mgmt (ho : s.offers p command f) (hf : frameWellFormed f = true) (hk : byteAt f 0 = 8) :
    mgmtShape (frameOpCode f).toNat = none ∧ serviceOf command = some (p, serveUnknownOperation)
      ∨ ∃ size always rule, mgmtShape (frameOpCode f).toNat = some (size, always)
        ∧ mgmtRuleOf command = some (size, always, rule) ∧ serviceOf command = some (p, serveMgmt size always rule) := by
  rw [command_of_mgmt ho hf hk]
  rcases mgmtCommandOf_service p (frameOpCode f) with ⟨hnone, hc⟩ | h
  · exact .inl ⟨hnone, by rw [hc]; rfl⟩
  · exact .inr h

theorem withManager_refused (hf : frameWellFormed f = true) (hm : inSet s.managers (frameRequester f).toNat = false)
    (unit : ReqId → Answer) : withManager f s unit = refuse .notManager s := by
  simp [withManager, hf, hm]

theorem withManager_served (hf : frameWellFormed f = true) (hm : inSet s.managers (frameRequester f).toNat = true)
    (unit : ReqId → Answer) :
    withManager f s unit
      = ((unit (frameRequester f)).1, .mgmtReply (frameOpCode f) (unit (frameRequester f)).2.1 (unit (frameRequester f)).2.2) := by
  simp [withManager, hf, hm]

/-- A command with a service, offered its frame. -/
theorem exec_offered {serve : List Byte → State → Served} (hi : serviceOf command = some (p, serve))
    (ho : s.offers p command f) : exec command s = .next (afterTaking p f (serve f (s.beginTaking p))) :=
  (exec_service hi s).trans (takeHead_offered ho serve)

/-- An operation that passes its checks replies what its rule answers. -/
theorem exec_answered {size : Nat} {always : Bool} {rule : ReqId → List Byte → State → Answer} {operand reply : List Byte}
    {r : MgmtResult} {t : State} (hi : serviceOf command = some (p, serveMgmt size always rule)) (h : s.obeys p command f operand)
    (hs : operand.length = size) (hr : s.restart = none ∨ always = true)
    (ha : rule (frameRequester f) operand (s.beginTaking p) = (t, r, reply)) :
    exec command s = .next (repliedTo p f t r reply) := by
  rw [exec_obeyed (exec_service hi s) h hs hr, ha]

/-- A rule that declines the operand changes nothing. -/
theorem exec_declined {size : Nat} {always : Bool} {rule : ReqId → List Byte → State → Answer} {operand : List Byte}
    {r : MgmtResult} (hi : serviceOf command = some (p, serveMgmt size always rule)) (h : s.obeys p command f operand)
    (hs : operand.length = size) (hr : s.restart = none ∨ always = true)
    (hd : rule (frameRequester f) operand (s.beginTaking p) = decline (s.beginTaking p) r) :
    exec command s = .next (repliedTo p f (s.beginTaking p) r []) := exec_answered hi h hs hr hd

end Mgmt

/-- Settles O30, by the service of the frame's operation code; an index out of range is no index of the rule. -/
theorem managementChecksAnswerInOrder : Obligations.ManagementChecksAnswerInOrder := by
  intro s p command f ho hf hk
  have hservice := service_mgmt ho hf hk
  refine ⟨fun hm => ?_, fun hm => ⟨fun hnone => ?_, fun size always hshape => ⟨fun hr halways => ?_, fun hr hs => ?_, ?_⟩⟩⟩
  · have hm' : inSet (s.beginTaking p).managers (frameRequester f).toNat = false := by simpa using hm
    rcases hservice with ⟨-, hi⟩ | ⟨_, _, _, -, -, hi⟩
    · rw [exec_offered hi ho, serveUnknownOperation, withManager_refused hf hm']
      rfl
    · rw [exec_offered hi ho, serveMgmt, withManager_refused hf hm']
      rfl
  · have hm' : inSet (s.beginTaking p).managers (frameRequester f).toNat = true := by simpa using hm
    rcases hservice with ⟨-, hi⟩ | ⟨_, _, _, hs, -, -⟩
    · rw [exec_offered hi ho, serveUnknownOperation, withManager_served hf hm']
      rfl
    · rw [hnone] at hs
      cases hs
  all_goals
    obtain ⟨hs', -⟩ | ⟨_, _, rule, hs', hrule, hi⟩ := hservice
    · rw [hshape] at hs'
      cases hs'
    rw [hshape] at hs'
    cases hs'
  · subst halways
    rw [exec_service hi s]
    exact takeHead_serveMgmt_restartPending ⟨ho, hf, hm, rfl⟩ hr size rule
  · have hm' : inSet (s.beginTaking p).managers (frameRequester f).toNat = true := by simpa using hm
    have hn : ((s.beginTaking p).restartPending && !always) = false := by
      rcases hr with hr | hr <;> simp [State.restartPending, hr]
    simp only [exec_offered hi ho, serveMgmt, withManager_served hf hm', hn, Bool.false_eq_true, if_false, bne_iff_ne, hs, ne_eq,
      not_false_eq_true, if_true]
    rfl
  · intro n hr hop hout
    have hobeys : s.obeys p command f [n] := ⟨ho, hf, hm, hop⟩
    rcases hout with ⟨hc, hn⟩ | ⟨hc, hn⟩ | ⟨hc, hn⟩ | ⟨rfl, hn⟩ | ⟨rfl, hn⟩
    · have hid : idOfCode 24 n = none := idOfCode_eq_none (by omega)
      simp only [List.mem_cons, List.not_mem_nil, or_false] at hc
      rcases hc with rfl | rfl | rfl <;> cases hrule <;> refine exec_declined rfl hobeys rfl hr ?_
      · simp [windowClearRule, byteAt, hid]
      · simp [windowReadRule, byteAt, hid]
      · simp [grantRevokeRule, byteAt, hid]
    · have hid : idOfCode 12 n = none := idOfCode_eq_none (by omega)
      simp only [List.mem_cons, List.not_mem_nil, or_false] at hc
      rcases hc with rfl | rfl | rfl <;> cases hrule <;> refine exec_declined rfl hobeys rfl hr ?_
      · simp [bufferReadRule, byteAt, hid]
      · simp [bufferRetryRule, byteAt, hid]
      · simp [bufferDiscardRule, byteAt, hid]
    · have hid : channelOfCode n = none := channelOfCode_eq_none hn
      simp only [List.mem_cons, List.not_mem_nil, or_false] at hc
      rcases hc with rfl | rfl <;> cases hrule <;> refine exec_declined rfl hobeys rfl hr ?_
      · simp [channelOfflineRule, byteAt, hid]
      · simp [channelOnlineRule, byteAt, hid]
    · cases hrule
      refine exec_declined rfl hobeys rfl hr ?_
      simp only [countersReadRule, byteAt, List.getD_cons_zero]
      split
      case h_4 => rfl
      all_goals omega
    · cases hrule
      refine exec_declined rfl hobeys rfl hr ?_
      have hcount : ¬ (1 ≤ n.toNat ∧ n.toNat ≤ 4) := by omega
      simp [eventsReadRule, byteAt, hcount]

/-! #### The operations that read -/

theorem countP_toList {α : Type} {n : Nat} (v : Vector α n) (test : α → Bool) :
    v.toList.countP test = (List.finRange n).countP fun i => test v[i] := by
  have hv : v.toList = (List.finRange n).map fun i => v[i] := by
    apply List.ext_getElem
    · simp
    · intro i h1 h2; simp
  rw [hv, List.countP_map]
  rfl

theorem countBuffers_eq (s : State) {code : Nat} {test : Option Buffer → Bool}
    (h : ∀ o, (bufferStateCode o == code) = test o) :
    s.countBuffers code = (List.finRange 12).countP fun b => test (s.buffer b) := by
  rw [State.countBuffers, countP_toList]
  simp only [h]
  rfl

theorem countSlots_eq (s : State) {code : Nat} {test : Option Slot → Bool} (h : ∀ o, (slotStateCode o == code) = test o) :
    s.countSlots code = (List.finRange 8).countP fun i => test (s.slot i) := by
  rw [State.countSlots, countP_toList]
  simp only [h]
  rfl

theorem countBuffers_tests (s : State) :
    s.countBuffers 0 = (List.finRange 12).countP (fun b => (s.buffer b).isNone)
      ∧ s.countBuffers 1 = (List.finRange 12).countP (fun b => (s.buffer b).any Buffer.isOpen)
      ∧ s.countBuffers 2 = (List.finRange 12).countP (fun b => (s.buffer b).any fun x => x.phase == .sealed)
      ∧ s.countBuffers 3 = (List.finRange 12).countP (fun b => (s.buffer b).any fun x => x.phase == .queued)
      ∧ s.countBuffers 4 = (List.finRange 12).countP (fun b => (s.buffer b).any fun x => x.phase == .programming)
      ∧ s.countBuffers 5 = (List.finRange 12).countP (fun b => (s.buffer b).any Buffer.isHeld) := by
  refine ⟨countBuffers_eq s ?_, countBuffers_eq s (test := Option.any Buffer.isOpen) ?_,
    countBuffers_eq s (test := Option.any fun x => x.phase == .sealed) ?_,
    countBuffers_eq s (test := Option.any fun x => x.phase == .queued) ?_,
    countBuffers_eq s (test := Option.any fun x => x.phase == .programming) ?_,
    countBuffers_eq s (test := Option.any Buffer.isHeld) ?_⟩
  all_goals
    rintro (_ | ⟨_, _, _, _, _, _, phase, _⟩)
    · rfl
    · cases phase <;> rfl

theorem countSlots_tests (s : State) :
    s.countSlots 0 = (List.finRange 8).countP (fun i => (s.slot i).isNone)
      ∧ s.countSlots 1 = (List.finRange 8).countP (fun i => (s.slot i).any Slot.isFetching)
      ∧ s.countSlots 2 = (List.finRange 8).countP (fun i => (s.slot i).any fun x => match x.phase with
        | .ready _ _ => true
        | _ => false)
      ∧ s.countSlots 3 = (List.finRange 8).countP (fun i => (s.slot i).any fun x => match x.phase with
        | .failed _ _ => true
        | _ => false) := by
  refine ⟨countSlots_eq s ?_, countSlots_eq s (test := Option.any Slot.isFetching) ?_,
    countSlots_eq s (test := Option.any fun x => _) ?_, countSlots_eq s (test := Option.any fun x => _) ?_⟩
  all_goals
    rintro (_ | ⟨_, _, _, phase⟩)
    · rfl
    · cases phase <;> rfl

theorem beginTaking_up (s : State) (p p' : PortId) : ((s.beginTaking p).port p').up = (s.port p').up := by
  cases p <;> cases p' <;> rfl

theorem ofNat_flagCode (b : Bool) : BitVec.ofNat 8 (flagCode b) = if b then 1 else 0 := by cases b <;> rfl

theorem rightsCode_eq (r : Rights) :
    r.code = (if r.read then 1 else 0) + (if r.write then 2 else 0) + (if r.clear then 4 else 0) := by
  obtain ⟨read, write, clear⟩ := r
  cases read <;> cases write <;> cases clear <;> rfl

theorem windowEntryBytes_eq (w : WindowId) (e : WindowEntry) :
    windowEntryBytes w e = BitVec.ofNat 8 w :: (if e.valid then 1 else 0) :: (e.operand w).drop 1 := by
  have hchannel : channelCode e.channel = if e.channel = .sc0 then 0 else 1 := by cases e.channel <;> rfl
  have hgrant : flagCode e.grantRequired = if e.grantRequired then 1 else 0 := rfl
  simp only [windowEntryBytes, WindowEntry.operand, bytesOf_one, ofNat_flagCode, hchannel, rightsCode_eq, hgrant,
    List.append_assoc, List.cons_append, List.nil_append, List.drop_succ_cons, List.drop_zero]

theorem noticeTargetBytes_some (q : ReqId) (port : PortId) :
    bytesOf 2 (noticeTargetCode (some (q, port))) = [q.setWidth 8, if port = .lp0 then 0 else 1] := by
  have hport : portCode port < 256 := by cases port <;> decide
  have hhigh : (q.toNat * 256 + portCode port) / 256 = q.toNat := by omega
  have hlow : BitVec.ofNat 8 (q.toNat * 256 + portCode port) = BitVec.ofNat 8 (portCode port) := by
    apply BitVec.eq_of_toNat_eq
    simp [BitVec.toNat_ofNat]
  simp only [noticeTargetCode, bytesOf_two, hhigh, hlow, ofNat_toNat_reqId, ofNat_portCode]

theorem statusRecord_eq (s : State) :
    s.statusRecord
      = (([flagCode s.restartPending, flagCode s.lp0.up, flagCode s.lp1.up, s.sc0.state.code, s.sc1.state.code,
          s.sc0.queue.length, s.sc1.queue.length, s.countBuffers 0, s.countBuffers 1, s.countBuffers 2, s.countBuffers 3,
          s.countBuffers 4, s.countBuffers 5, s.countSlots 0, s.countSlots 1, s.countSlots 2, s.countSlots 3, s.countGrants,
          s.log.length].map (BitVec.ofNat 8)) ++ bytesOf 2 s.overflow.toNat ++ bytesOf 4 s.timeBase.toNat) := by
  have hone : bytesOf 1 = fun n => [BitVec.ofNat 8 n] := funext bytesOf_one
  rw [State.statusRecord, hone, ← List.map_eq_flatMap]
  rfl

theorem countGrants_eq (s : State) : s.countGrants = (List.finRange 24).countP fun w => (s.grantOf w).isSome :=
  countP_toList ..

/-- Settles O31: each operation's rule replies from the state that steps 1 and 2 of the taking leave. -/
theorem readOperationsReplyWithTheState : Obligations.ReadOperationsReplyWithTheState := by
  intro s p f yes begun answers portBytes states buffersIn slotsIn
  refine ⟨fun h => ?_, fun hr => ⟨fun w h => ?_, fun b h => ⟨fun hb => ?_, fun x hx => ?_⟩, fun h => ?_, fun h => ?_,
    fun h => ?_, fun h => ?_⟩⟩
  · refine exec_answered (rule := statusReadRule) rfl h rfl (.inr rfl) (congrArg (answerOk _) ?_)
    have hbuffers (code : Nat) : (s.beginTaking p).countBuffers code = s.countBuffers code := by cases p <;> rfl
    have hslots (code : Nat) : (s.beginTaking p).countSlots code = s.countSlots code := by cases p <;> rfl
    have hgrants : (s.beginTaking p).countGrants = s.countGrants := by cases p <;> rfl
    obtain ⟨hfree, hopen, hsealed, hqueued, hprogramming, hheld⟩ := countBuffers_tests s
    obtain ⟨hfreeSlots, hfetching, hready, hfailed⟩ := countSlots_tests s
    have hup0 : (s.beginTaking p).lp0.up = s.lp0.up := beginTaking_up s p .lp0
    have hup1 : (s.beginTaking p).lp1.up = s.lp1.up := beginTaking_up s p .lp1
    simp only [statusRecord_eq, hbuffers, hslots, hgrants, countGrants_eq, hup0, hup1, List.map_cons, ofNat_flagCode,
      beginTaking_restartPending, beginTaking_sc0, beginTaking_sc1, beginTaking_log, beginTaking_overflow, beginTaking_timeBase,
      hfree, hopen, hsealed, hqueued, hprogramming, hheld, hfreeSlots, hfetching, hready, hfailed]
    cases s.sc0.state <;> cases s.sc1.state <;> rfl
  · refine exec_answered (rule := windowReadRule) rfl h rfl (.inl hr) ?_
    simp only [windowReadRule, byteAt, List.getD_cons_zero, idOfCode_id w (by decide), windowEntryBytes_eq, beginTaking_window]
    rfl
  · refine exec_answered (rule := bufferReadRule) rfl h rfl (.inl hr) ?_
    simp only [bufferReadRule, byteAt, List.getD_cons_zero, idOfCode_id b (by decide), beginTaking_buffer, hb, bufferSummary,
      bytesOf_one, bytesOf_two, bytesOf_four]
    rfl
  · refine exec_answered (rule := bufferReadRule) rfl h rfl (.inl hr) ?_
    obtain ⟨c, pg, stamp, staged, writers, windows, phase, attempts⟩ := x
    simp only [bufferReadRule, byteAt, List.getD_cons_zero, idOfCode_id b (by decide), beginTaking_buffer, hx, bufferSummary,
      bytesOf_one, ofNat_channelCode]
    cases phase with
    | held cause => cases cause <;> rfl
    | _ => rfl
  · exact exec_answered (rule := countersReadRule) rfl h rfl (.inl hr) (congrArg (answerOk _) (by simp [PortCounters.bytes, portBytes, begun]))
  · exact exec_answered (rule := countersReadRule) rfl h rfl (.inl hr) (congrArg (answerOk _) (by simp [PortCounters.bytes, portBytes, begun]))
  · refine exec_answered (rule := countersReadRule) rfl h rfl (.inl hr) (congrArg (answerOk _) ?_)
    simp [PartCounters.bytes]
  · refine exec_answered (rule := paramReadRule) rfl h rfl (.inl hr) (congrArg (answerOk _) ?_)
    simp only [Params.bytes, beginTaking_params, List.flatMap_cons, List.flatMap_nil, Params.code]
    cases s.params.noticeTarget with
    | none => simp only [List.append_nil, List.append_assoc]; rfl
    | some target =>
      obtain ⟨q, port⟩ := target
      simp only [noticeTargetBytes_some, List.append_nil, List.append_assoc]

end Sys2Proof.Machine

/-! ### WINDOW_LOAD, WINDOW_CLEAR and GRANT_REVOKE (R18 to R21, R120, R121) -/

namespace Sys2Proof.Machine

/-! #### The operand of WINDOW_LOAD, there and back (R171, R172) -/

theorem numberOf_bytesOf_two {x : Nat} (h : x < 65536) : numberOf (bytesOf 2 x) = x := by
  simp only [bytesOf_two, numberOf, List.foldl_cons, List.foldl_nil, BitVec.toNat_ofNat]
  omega

theorem numberOf_bytesOf_three {x : Nat} (h : x < 16777216) : numberOf (bytesOf 3 x) = x := by
  simp only [bytesOf_three, numberOf, List.foldl_cons, List.foldl_nil, BitVec.toNat_ofNat]
  omega

theorem numberOf_bytesOf_four {x : Nat} (h : x < 4294967296) : numberOf (bytesOf 4 x) = x := by
  simp only [bytesOf_four, numberOf, List.foldl_cons, List.foldl_nil, BitVec.toNat_ofNat]
  omega

section Operand
variable {w : WindowId} {e : WindowEntry}

theorem length_operand (w : WindowId) (e : WindowEntry) : (e.operand w).length = 16 := by simp [WindowEntry.operand]

theorem rightsOfCode_rights {r : Rights} (h : r.read = true ∨ r.write = true ∨ r.clear = true) :
    rightsOfCode (BitVec.ofNat 8 ((if r.read then 1 else 0) + (if r.write then 2 else 0) + (if r.clear then 4 else 0)))
      = some r := by
  obtain ⟨read, write, clear⟩ := r
  revert read write clear
  decide

/-- The operand byte by byte. -/
theorem operand_eq (w : WindowId) (e : WindowEntry) :
    e.operand w = BitVec.ofNat 8 w :: (bytesOf 4 e.requesters.toNat ++ (bytesOf 3 e.linkBase.toNat ++ (bytesOf 3 e.pageCount
      ++ (bytesOf 2 e.storeBase.toNat ++ [BitVec.ofNat 8 (if e.channel = .sc0 then 0 else 1),
        BitVec.ofNat 8 ((if e.rights.read then 1 else 0) + (if e.rights.write then 2 else 0) + (if e.rights.clear then 4 else 0)),
        BitVec.ofNat 8 (if e.grantRequired then 1 else 0)])))) := by
  simp only [WindowEntry.operand, bytesOf_one, List.append_assoc, List.cons_append, List.nil_append]

/-- Each entry in range is read back from its operand. -/
theorem windowLoadOperand_operand (hv : e.valid = true) (hr : e.inRanges) : windowLoadOperand (e.operand w) = some (w, e) := by
  obtain ⟨⟨hreq, hzero⟩, ⟨hpages, hmost⟩, hlink, hstore, hright, hgrant⟩ := hr
  have hw : idOfCode 24 (byteAt (e.operand w) 0) = some w := by
    rw [operand_eq]
    exact idOfCode_id w (by decide)
  have hc : channelOfCode (byteAt (e.operand w) 13) = some e.channel := by
    have hbyte : byteAt (e.operand w) 13 = BitVec.ofNat 8 (if e.channel = .sc0 then 0 else 1) := by
      simp [operand_eq, byteAt, bytesOf_two, bytesOf_three, bytesOf_four]
    rw [hbyte]
    cases e.channel <;> rfl
  have hrights : rightsOfCode (byteAt (e.operand w) 14) = some e.rights := by
    rw [← rightsOfCode_rights hright]
    simp [operand_eq, byteAt, bytesOf_two, bytesOf_three, bytesOf_four]
  have hflag : flagOfCode (byteAt (e.operand w) 15) = some e.grantRequired := by
    have hbyte : byteAt (e.operand w) 15 = BitVec.ofNat 8 (if e.grantRequired then 1 else 0) := by
      simp [operand_eq, byteAt, bytesOf_two, bytesOf_three, bytesOf_four]
    rw [hbyte]
    cases e.grantRequired <;> rfl
  have hfield1 : fieldAt (e.operand w) 1 4 = e.requesters.toNat := by
    rw [← numberOf_bytesOf_four e.requesters.isLt, operand_eq]
    simp [fieldAt, bytesOf_four]
  have hfield5 : fieldAt (e.operand w) 5 3 = e.linkBase.toNat := by
    rw [← numberOf_bytesOf_three e.linkBase.isLt, operand_eq]
    simp [fieldAt, bytesOf_three, bytesOf_four]
  have hfield8 : fieldAt (e.operand w) 8 3 = e.pageCount := by
    rw [← numberOf_bytesOf_three (Nat.lt_of_le_of_lt hmost (by decide)), operand_eq]
    simp [fieldAt, bytesOf_three, bytesOf_four]
  have hfield11 : fieldAt (e.operand w) 11 2 = e.storeBase.toNat := by
    rw [← numberOf_bytesOf_two e.storeBase.isLt, operand_eq]
    simp [fieldAt, bytesOf_two, bytesOf_three, bytesOf_four]
  have hok : ¬ ((e.requesters == 0 || inSet e.requesters 0 || e.pageCount == 0 || decide (Config.storePages < e.pageCount)
      || decide (Config.linkPages < e.linkBase.toNat + e.pageCount)
      || decide (Config.storePages < e.storeBase.toNat + e.pageCount)
      || (e.grantRequired && !e.rights.write && !e.rights.clear)) = true) := by
    simp only [Bool.or_eq_true, beq_iff_eq, decide_eq_true_eq, Bool.and_eq_true, Bool.not_eq_true', not_or, not_and, hreq, hzero,
      not_lt, hmost, hlink, hstore, and_true, not_false_eq_true, Bool.false_eq_true, true_and]
    refine ⟨by omega, fun ⟨hg, hwrite⟩ hclear => ?_⟩
    rcases hgrant hg with h | h
    · rw [hwrite] at h; cases h
    · rw [hclear] at h; cases h
  simp only [windowLoadOperand, hw, hc, hrights, hflag, hfield1, hfield5, hfield8, hfield11, BitVec.ofNat_toNat,
    BitVec.setWidth_eq, if_neg hok]
  rw [← hv]

theorem bytesOf_fieldAt_two {f : List Byte} {i : Nat} (h : i + 2 ≤ f.length) :
    bytesOf 2 (fieldAt f i 2) = [byteAt f i, byteAt f (i + 1)] := by
  rw [fieldAt_two h, bytesOf_two]
  congr 2 <;> (apply BitVec.eq_of_toNat_eq; simp only [BitVec.toNat_ofNat]; omega)

theorem bytesOf_fieldAt_three {f : List Byte} {i : Nat} (h : i + 3 ≤ f.length) :
    bytesOf 3 (fieldAt f i 3) = [byteAt f i, byteAt f (i + 1), byteAt f (i + 2)] := by
  rw [fieldAt_three h, bytesOf_three]
  congr 3 <;> (apply BitVec.eq_of_toNat_eq; simp only [BitVec.toNat_ofNat]; omega)

theorem bytesOf_fieldAt_four {f : List Byte} {i : Nat} (h : i + 4 ≤ f.length) :
    bytesOf 4 (fieldAt f i 4) = [byteAt f i, byteAt f (i + 1), byteAt f (i + 2), byteAt f (i + 3)] := by
  rw [fieldAt_four h, bytesOf_four]
  congr 4 <;> (apply BitVec.eq_of_toNat_eq; simp only [BitVec.toNat_ofNat]; omega)

theorem ofNat_channelOfCode {b : Byte} {c : ChannelId} (h : channelOfCode b = some c) :
    BitVec.ofNat 8 (if c = .sc0 then 0 else 1) = b := by
  revert c b
  decide

theorem ofNat_rightsOfCode {b : Byte} {r : Rights} (h : rightsOfCode b = some r) :
    BitVec.ofNat 8 ((if r.read then 1 else 0) + (if r.write then 2 else 0) + (if r.clear then 4 else 0)) = b := by
  obtain ⟨read, write, clear⟩ := r
  revert read write clear b
  decide

theorem ofNat_flagOfCode {b : Byte} {g : Bool} (h : flagOfCode b = some g) : BitVec.ofNat 8 (if g then 1 else 0) = b := by
  revert g b
  decide

/-- Sixteen bytes that are read as an entry are its operand. -/
theorem operand_of_windowLoadOperand {op : List Byte} (hlen : op.length = 16) (h : windowLoadOperand op = some (w, e)) :
    op = e.operand w := by
  obtain ⟨c, r, g, hw, hc, hr, hg, rfl, -, -, -, -, -, -⟩ := windowLoadOperand_some h
  have hbytes : op = (List.range 16).map (byteAt op) := by
    have := take_drop_eq_byteAt (f := op) (i := 0) (n := 16) (by omega)
    simpa [List.take_of_length_le (Nat.le_of_eq hlen)] using this
  have h0 : BitVec.ofNat 8 w = byteAt op 0 := by
    simp only [idOfCode, Option.dite_none_right_eq_some, Option.some.injEq] at hw
    obtain ⟨hlt, rfl⟩ := hw
    exact BitVec.ofNat_toNat ..
  have h1 : bytesOf 4 (BitVec.ofNat 32 (fieldAt op 1 4)).toNat = [byteAt op 1, byteAt op 2, byteAt op 3, byteAt op 4] := by
    rw [← bytesOf_fieldAt_four (by omega), BitVec.toNat_ofNat, Nat.mod_eq_of_lt]
    rw [fieldAt_four (by omega)]
    omega
  have h5 : bytesOf 3 (BitVec.ofNat 24 (fieldAt op 5 3)).toNat = [byteAt op 5, byteAt op 6, byteAt op 7] := by
    rw [← bytesOf_fieldAt_three (by omega), BitVec.toNat_ofNat, Nat.mod_eq_of_lt]
    rw [fieldAt_three (by omega)]
    omega
  have h11 : bytesOf 2 (BitVec.ofNat 16 (fieldAt op 11 2)).toNat = [byteAt op 11, byteAt op 12] := by
    rw [← bytesOf_fieldAt_two (by omega), BitVec.toNat_ofNat, Nat.mod_eq_of_lt]
    rw [fieldAt_two (by omega)]
    omega
  calc op = (List.range 16).map (byteAt op) := hbytes
    _ = [byteAt op 0] ++ [byteAt op 1, byteAt op 2, byteAt op 3, byteAt op 4] ++ [byteAt op 5, byteAt op 6, byteAt op 7]
        ++ [byteAt op 8, byteAt op 9, byteAt op 10] ++ [byteAt op 11, byteAt op 12] ++ [byteAt op 13] ++ [byteAt op 14]
        ++ [byteAt op 15] := rfl
    _ = _ := by
      simp only [WindowEntry.operand, bytesOf_one, h0, h1, h5, bytesOf_fieldAt_three (f := op) (i := 8) (by omega), h11,
        ofNat_channelOfCode hc, ofNat_rightsOfCode hr, ofNat_flagOfCode hg]

end Operand

/-- Settles O33, by the round trip both ways. -/
theorem windowLoadOperandIsReadExactly : Obligations.WindowLoadOperandIsReadExactly := by
  refine ⟨fun w e hv hr => ⟨length_operand w e, windowLoadOperand_operand hv hr⟩, fun op w e hlen h => ?_,
    fun s p f op hlen h hr hno => ?_⟩
  · exact ⟨operand_of_windowLoadOperand hlen h, inRanges_of_windowLoadOperand h⟩
  · refine exec_declined (rule := windowLoadRule) rfl h hlen (.inl hr) ?_
    cases hop : windowLoadOperand op with
    | none => simp only [windowLoadRule, hop]
    | some we =>
      obtain ⟨w, e⟩ := we
      have hin := inRanges_of_windowLoadOperand hop
      exact absurd (operand_of_windowLoadOperand hlen hop) (hno w e hin.1 hin.2)

/-! #### The end of a grant by management -/

section Revoke
variable {s : State} {w : WindowId} {cause : RevokeCause}

theorem revokeGrant_unheld (h : s.holderOf w = none) : s.revokeGrant w cause = s := by simp [State.revokeGrant, h]

theorem revokeGrant_held {q : ReqId} (h : s.holderOf w = some q) :
    s.revokeGrant w cause = (s.endGrant w).append (.grantRevoked q w cause) := by simp [State.revokeGrant, h]

/-- Two valid entries in range that overlap match one request (R19). -/
theorem matches_of_overlaps {a b : WindowEntry} (ha : a.valid = true) (hb : b.valid = true) (hra : a.inRanges) (hrb : b.inRanges)
    (h : a.overlaps b = true) : ∃ q page, a.matches q page = true ∧ b.matches q page = true := by
  simp only [WindowEntry.overlaps, Bool.and_eq_true, bne_iff_ne, decide_eq_true_eq] at h
  obtain ⟨⟨hreq, hab⟩, hba⟩ := h
  obtain ⟨-, ⟨hpa, -⟩, -⟩ := hra
  obtain ⟨-, ⟨hpb, -⟩, -⟩ := hrb
  obtain ⟨n, hn⟩ : ∃ n, inSet (a.requesters &&& b.requesters) n = true := by
    by_contra hno
    exact hreq (set_eq_zero.mpr fun i => Bool.eq_false_iff.mpr fun hi => hno ⟨i, hi⟩)
  have hlt : n < 32 := inSet_lt hn
  rw [inSet, BitVec.getLsbD_and, Bool.and_eq_true] at hn
  have hq : (BitVec.ofNat 5 n).toNat = n := by rw [BitVec.toNat_ofNat]; omega
  refine ⟨BitVec.ofNat 5 n, max a.linkBase.toNat b.linkBase.toNat, (matches_iff ..).mpr ⟨ha, ?_, ?_, ?_⟩,
    (matches_iff ..).mpr ⟨hb, ?_, ?_, ?_⟩⟩
  · rw [hq]; exact hn.1
  · omega
  · omega
  · rw [hq]; exact hn.2
  · omega
  · omega

/-- Another entry overlaps the new one exactly when one request could match both (R19). -/
theorem loadOverlaps_iff {e : WindowEntry} (hl : s.windowsLawful) (hv : e.valid = true) (hr : e.inRanges) :
    s.loadOverlaps w e = true
      ↔ ∃ (v : WindowId) (q : ReqId) (page : Nat), v ≠ w ∧ (s.window v).matches q page = true ∧ e.matches q page = true := by
  simp only [State.loadOverlaps, List.any_eq_true, List.mem_finRange, true_and, Bool.and_eq_true, bne_iff_ne]
  constructor
  · rintro ⟨v, ⟨hvw, hvalid⟩, hover⟩
    obtain ⟨q, page, h⟩ := matches_of_overlaps hvalid hv (hl.1 v hvalid) hr hover
    exact ⟨v, q, page, hvw, h⟩
  · rintro ⟨v, q, page, hvw, hmatch, he⟩
    exact ⟨v, ⟨hvw, ((matches_iff ..).mp hmatch).1⟩, overlaps_of_matches hmatch he⟩

end Revoke

/-- Settles O32: the entry read back is judged by the pairs of requester and page that match. -/
theorem windowLoadReplacesTheEntry : Obligations.WindowLoadReplacesTheEntry := by
  intro s p f w e hl hv hrange h hr clash loaded
  have hread : windowLoadOperand (e.operand w) = some (w, e) := windowLoadOperand_operand hv hrange
  have hclash : (s.beginTaking p).loadOverlaps w e = true ↔ clash := by
    have hwindow (v : WindowId) : (s.beginTaking p).window v = s.window v := beginTaking_window s p v
    rw [State.loadOverlaps]
    simp only [hwindow]
    exact loadOverlaps_iff hl hv hrange
  have hlen := length_operand w e
  refine ⟨fun hyes => ?_, fun hno hnone => ?_, fun q hno hheld => ?_⟩
  · refine exec_answered (rule := windowLoadRule) rfl h hlen (.inl hr) ?_
    simp only [windowLoadRule, hread, hclash.mpr hyes, if_true]
    rfl
  · have hoverlap := Bool.eq_false_iff.mpr fun hover => hno (hclash.mp hover)
    have hholder : loaded.holderOf w = none := (beginTaking_holderOf s p w).trans hnone
    refine exec_answered (rule := windowLoadRule) rfl h hlen (.inl hr) ?_
    simp only [windowLoadRule, hread, hoverlap, Bool.false_eq_true, if_false, answerOk]
    rw [revokeGrant_unheld hholder]
  · have hoverlap := Bool.eq_false_iff.mpr fun hover => hno (hclash.mp hover)
    have hholder : loaded.holderOf w = some q := (beginTaking_holderOf s p w).trans hheld
    refine exec_answered (rule := windowLoadRule) rfl h hlen (.inl hr) ?_
    simp only [windowLoadRule, hread, hoverlap, Bool.false_eq_true, if_false, answerOk]
    rw [revokeGrant_held hholder]

/-- Settles O34, by the record's holder. -/
theorem clearAndRevokeEndTheGrant : Obligations.ClearAndRevokeEndTheGrant := by
  intro s p f w hr begun cleared
  have hid : idOfCode 24 (BitVec.ofNat 8 w) = some w := idOfCode_id w (by decide)
  refine ⟨fun h => ⟨fun hv => ?_, fun hv hnone => ?_, fun q hv hheld => ?_⟩, fun h => ⟨fun hnone => ?_, fun q hheld => ?_⟩⟩
  · refine exec_answered (rule := windowClearRule) rfl h rfl (.inl hr) ?_
    simp only [windowClearRule, byteAt, List.getD_cons_zero, hid, beginTaking_window, hv, Bool.false_eq_true, if_false]
    rfl
  · have hholder : cleared.holderOf w = none := (beginTaking_holderOf s p w).trans hnone
    refine exec_answered (rule := windowClearRule) rfl h rfl (.inl hr) ?_
    simp only [windowClearRule, byteAt, List.getD_cons_zero, hid, beginTaking_window, hv, if_true, answerOk]
    rw [revokeGrant_unheld hholder]
  · have hholder : cleared.holderOf w = some q := (beginTaking_holderOf s p w).trans hheld
    refine exec_answered (rule := windowClearRule) rfl h rfl (.inl hr) ?_
    simp only [windowClearRule, byteAt, List.getD_cons_zero, hid, beginTaking_window, hv, if_true, answerOk]
    rw [revokeGrant_held hholder]
  · refine exec_answered (rule := grantRevokeRule) rfl h rfl (.inl hr) ?_
    simp only [grantRevokeRule, byteAt, List.getD_cons_zero, hid, beginTaking_holderOf, hnone]
    rfl
  · refine exec_answered (rule := grantRevokeRule) rfl h rfl (.inl hr) ?_
    simp only [grantRevokeRule, byteAt, List.getD_cons_zero, hid, beginTaking_holderOf, hheld, beginTaking_openUnder,
      bytesOf_one, ofNat_toNat_reqId, revokeGrant_held ((beginTaking_holderOf s p w).trans hheld)]
    rfl

end Sys2Proof.Machine

/-! ### The other management operations (R86, R90, R103, R104, R143, R146, R150 to R153) -/

namespace Sys2Proof.Machine

/-! #### An append changes log and notice alone (R159, R161) -/

theorem append_eq (e : Event) (s : State) :
    s.append e = { s with
      log := (s.append e).log, sequence := (s.append e).sequence, overflow := (s.append e).overflow
      notice := (s.append e).notice } := by
  by_cases h : s.log.length < 16
  · rw [append_kept h]
  · rw [append_counted (Nat.not_lt.mp h)]

section Append
variable (e : Event) (s : State)

@[simp] theorem append_buffers : (s.append e).buffers = s.buffers := by rw [append_eq]
@[simp] theorem append_openOrder : (s.append e).openOrder = s.openOrder := by rw [append_eq]
@[simp] theorem append_sealList : (s.append e).sealList = s.sealList := by rw [append_eq]
@[simp] theorem append_slots : (s.append e).slots = s.slots := by rw [append_eq]
@[simp] theorem append_sc0 : (s.append e).sc0 = s.sc0 := by rw [append_eq]
@[simp] theorem append_sc1 : (s.append e).sc1 = s.sc1 := by rw [append_eq]
@[simp] theorem append_params : (s.append e).params = s.params := by rw [append_eq]
@[simp] theorem append_restart : (s.append e).restart = s.restart := by rw [append_eq]
@[simp] theorem append_restartPending : (s.append e).restartPending = s.restartPending := by rw [append_eq]; rfl
@[simp] theorem append_buffer (b : BufferId) : (s.append e).buffer b = s.buffer b := by simp only [State.buffer, append_buffers]
@[simp] theorem append_slot (i : SlotId) : (s.append e).slot i = s.slot i := by simp only [State.slot, append_slots]
@[simp] theorem append_channel (c : ChannelId) : (s.append e).channel c = s.channel c := by
  cases c
  · exact append_sc0 e s
  · exact append_sc1 e s

end Append

/-! #### BUFFER_DISCARD (R103, R104) -/

theorem isHeld_iff (x : Buffer) : x.isHeld = true ↔ ∃ cause, x.phase = .held cause := by
  obtain ⟨_, _, _, _, _, _, phase, _⟩ := x
  cases phase <;> simp [Buffer.isHeld]

/-- Settles O36, by the phase of the buffer. -/
theorem discardFreesTheBuffer : Obligations.DiscardFreesTheBuffer := by
  intro s p f b hr h
  have hid : idOfCode 12 (BitVec.ofNat 8 b) = some b := idOfCode_id b (by decide)
  refine ⟨fun hno => exec_declined (rule := bufferDiscardRule) rfl h rfl (.inl hr) ?_, fun x cause hx hp =>
    exec_answered (rule := bufferDiscardRule) rfl h rfl (.inl hr) ?_⟩
  · simp only [bufferDiscardRule, byteAt, List.getD_cons_zero, hid, beginTaking_buffer]
    split
    next => rfl
    next x hx =>
      split
      next cause hp =>
        rw [bufferHas_of_some hx, Bool.eq_false_iff, ne_eq, isHeld_iff] at hno
        exact absurd ⟨cause, hp⟩ hno
      all_goals rfl
  · simp only [bufferDiscardRule, byteAt, List.getD_cons_zero, hid, beginTaking_buffer, hx, hp, answerOk]
    rw [State.releaseBuffer, append_openOrder, beginTaking_openOrder]

/-! #### CHANNEL_OFFLINE and CHANNEL_ONLINE (R86, R90) -/

theorem offlineEntry_state (s : State) (c : ChannelId) (cause : OfflineCause) :
    ((s.offlineEntry c cause).channel c).state = .offline := by
  rw [State.offlineEntry, append_channel, State.setChannel_channel_self]

theorem heldByOffline_eq (x : Buffer) : x.heldByOffline = (x.phase == .held .channelOffline) := by
  obtain ⟨_, _, _, _, _, _, phase, _⟩ := x
  cases phase with
  | held cause => cases cause <;> rfl
  | _ => rfl

/-- A buffer that returns from HELD (R90). -/
def Buffer.returned (x : Buffer) : Buffer := { x with phase := .sealed, attempts := 0 }

theorem returnSealed_eq {s : State} {b : BufferId} {x : Buffer} (hx : s.buffer b = some x) :
    s.returnSealed b = { s.setBuffer b (some x.returned) with sealList := s.sealList ++ [b] } := by
  simp only [State.returnSealed, hx]
  rfl

/-- Several live buffers return: each is SEALED with attempts 0, and they join the seal list in their order. -/
theorem foldl_returnSealed (bs : List BufferId) (s : State) (h : ∀ b ∈ bs, s.buffer b ≠ none) :
    (∀ b, (bs.foldl State.returnSealed s).buffer b
        = if b ∈ bs then (s.buffer b).map Buffer.returned else s.buffer b)
      ∧ bs.foldl State.returnSealed s
        = { s with buffers := (bs.foldl State.returnSealed s).buffers, sealList := s.sealList ++ bs } := by
  induction bs generalizing s with
  | nil => exact ⟨fun b => rfl, by rw [List.append_nil]; rfl⟩
  | cons a bs ih =>
    obtain ⟨x, hx⟩ := Option.ne_none_iff_exists'.mp (h a (List.mem_cons_self ..))
    have hs1 := returnSealed_eq hx
    have hbuffer (b : BufferId) : (s.returnSealed a).buffer b = if b = a then some x.returned else s.buffer b := by
      rw [hs1]
      exact State.setBuffer_buffer s a _ b
    have hlive : ∀ b ∈ bs, (s.returnSealed a).buffer b ≠ none := by
      intro b hb
      rw [hbuffer]
      split
      next => exact Option.some_ne_none _
      next => exact h b (List.mem_cons_of_mem _ hb)
    obtain ⟨hbuffers, hrest⟩ := ih _ hlive
    rw [List.foldl_cons]
    refine ⟨fun b => ?_, ?_⟩
    · rw [hbuffers, hbuffer]
      by_cases hba : b = a
      · subst hba
        simp [hx, Buffer.returned]
      · simp [hba]
    · rw [hrest, hs1]
      simp only [List.append_assoc, List.cons_append, List.nil_append]
      rfl

/-- Settles O37, by the channel's state. -/
theorem channelsGoOfflineAndOnline : Obligations.ChannelsGoOfflineAndOnline := by
  intro s p f c hr begun
  have hid : channelOfCode (if c = .sc0 then 0 else 1) = some c := channelOfCode_code c
  constructor
  · intro h
    have hreply {t : State} {n : Byte} (ht : begun.requestOffline c = t) (hn : BitVec.ofNat 8 (t.channel c).state.code = n) :
        exec (.channelOffline p) s = .next (repliedTo p f t .ok [n]) := by
      refine exec_answered (rule := channelOfflineRule) rfl h rfl (.inl hr) ?_
      simp only [channelOfflineRule, byteAt, List.getD_cons_zero, hid, answerOk, bytesOf_one]
      rw [ht, hn]
    have hchannel : begun.channel c = s.channel c := beginTaking_channel s p c
    refine ⟨fun hstate => hreply ?_ ?_, fun hstate => hreply ?_ ?_, fun hstate => hreply ?_ ?_, fun hstate => hreply ?_ ?_⟩
    · simp only [State.requestOffline, hchannel, hstate]
    · rw [offlineEntry_state]; rfl
    · simp only [State.requestOffline, hchannel, hstate]
    · rw [State.setChannel_channel_self]; rfl
    · simp only [State.requestOffline, hchannel, hstate]
    · rw [hchannel, hstate]; rfl
    · simp only [State.requestOffline, hchannel, hstate]
    · rw [hchannel, hstate]; rfl
  · intro h back
    refine ⟨fun hstate => exec_declined (rule := channelOnlineRule) rfl h rfl (.inl hr) ?_, fun hstate => ?_⟩
    · simp only [channelOnlineRule, byteAt, List.getD_cons_zero, hid, beginTaking_channel]
      split
      next hoff => exact absurd hoff hstate
      all_goals rfl
    · have hback : (begun.liveWith fun x => x.channel == c && x.heldByOffline) = back := by
        rw [beginTaking_liveWith]
        simp only [State.liveWith, heldByOffline_eq]
        rfl
      have hlive : ∀ b ∈ back, (begun.setChannel c { s.channel c with streak := 0, state := .idle }).buffer b ≠ none := by
        intro b hb
        obtain ⟨-, hhas⟩ := List.mem_filter.mp hb
        obtain ⟨x, hx, -⟩ := bufferHas_iff.mp hhas
        rw [State.setChannel_buffer, beginTaking_buffer, hx]
        exact Option.some_ne_none x
      obtain ⟨hbuffers, hrest⟩ := foldl_returnSealed back _ hlive
      refine ⟨_, fun b => ?_, hrest.trans ?_, ?_⟩
      · rw [hbuffers, State.setChannel_buffer, beginTaking_buffer]
        rfl
      · rw [State.setChannel_sealList, beginTaking_sealList]
      · refine exec_answered (rule := channelOnlineRule) rfl h rfl (.inl hr) ?_
        simp only [channelOnlineRule, byteAt, List.getD_cons_zero, hid, beginTaking_channel, hstate, answerOk, State.bringOnline]
        rw [hback]

end Sys2Proof.Machine

/-! ### Parameters, management set, restart, and the retry of a buffer (R100, R101, R143, R146, R150 to R153) -/

namespace Sys2Proof.Machine

/-! #### MGMT_SET_WRITE (R143) -/

theorem mgmtSetWriteRule_set (q : ReqId) (m : ReqSet) (s : State) :
    mgmtSetWriteRule q (bytesOf 4 m.toNat) s
      = if inSet m 0 then decline s .badOperand
        else if m == 0 then decline s .emptySet
        else answerOk { s with managers := m } (bytesOf 4 s.managers.toNat) := by
  have hfield : fieldAt (bytesOf 4 m.toNat) 0 4 = m.toNat := by
    rw [fieldAt, List.drop_zero, List.take_of_length_le (by rw [length_bytesOf]), numberOf_bytesOf_four m.isLt]
  simp only [mgmtSetWriteRule, hfield, BitVec.ofNat_toNat, BitVec.setWidth_eq]

/-- Settles O41, by the operation's rule on the set its operand names. -/
theorem managementSetIsReplacedWhole : Obligations.ManagementSetIsReplacedWhole := by
  intro s p f m hr h
  have hs := length_bytesOf 4 m.toNat
  refine ⟨fun h0 => exec_declined (rule := mgmtSetWriteRule) rfl h hs (.inl hr) ?_, ?_, fun h0 hm =>
    exec_answered (rule := mgmtSetWriteRule) rfl h hs (.inl hr) ?_⟩
  · rw [mgmtSetWriteRule_set, if_pos h0]
  · rintro rfl
    exact exec_declined (rule := mgmtSetWriteRule) rfl h hs (.inl hr) rfl
  · rw [mgmtSetWriteRule_set, h0, if_neg (by simp), if_neg (by simpa using hm), beginTaking_managers]
    rfl

/-! #### PARAM_SET (R145, R146, R161) -/

section ParamSet
variable {s : State} {p : PortId} {f : List Byte} {id v : Nat} {name : ParamId} {ps : Params}

theorem fieldAt_value (b : Byte) (hv : v < 65536) : fieldAt (b :: bytesOf 2 v) 1 2 = v := by
  rw [fieldAt, List.drop_succ_cons, List.drop_zero, List.take_of_length_le (by rw [length_bytesOf]), numberOf_bytesOf_two hv]

theorem paramSetRule_set (q : ReqId) {b : Byte} (hb : paramOfCode b = some name) (hv : v < 65536)
    (hset : s.params.set name v = some ps) :
    paramSetRule q (b :: bytesOf 2 v) s
      = answerOk (if ps.noticeTarget = s.params.noticeTarget then { s with params := ps } else { s with params := ps }.retarget)
          (bytesOf 2 (s.params.code name)) := by
  simp only [paramSetRule, byteAt, List.getD_cons_zero, hb, fieldAt_value b hv, hset]

theorem paramSetRule_outside (q : ReqId) {b : Byte} (hb : paramOfCode b = some name) (hv : v < 65536)
    (hset : s.params.set name v = none) : paramSetRule q (b :: bytesOf 2 v) s = decline s .badOperand := by
  simp only [paramSetRule, byteAt, List.getD_cons_zero, hb, fieldAt_value b hv, hset]

theorem inRange_inside {lo hi : Nat} (h : lo ≤ v ∧ v ≤ hi) : inRange lo hi v = some v := by
  simp only [inRange, Bool.and_eq_true, decide_eq_true_eq, if_pos h]

theorem inRange_outside {lo hi : Nat} (h : v < lo ∨ hi < v) : inRange lo hi v = none := by
  have hno : ¬ (lo ≤ v ∧ v ≤ hi) := by omega
  simp only [inRange, Bool.and_eq_true, decide_eq_true_eq, if_neg hno]

/-- A numeric parameter is set in its range and left outside. -/
theorem exec_paramSet_numeric {b : Byte} {lo hi old : Nat} {update : Nat → Params} (h : s.obeys p (.paramSet p) f (b :: bytesOf 2 v))
    (hr : s.restart = none) (hv : v < 65536) (hb : paramOfCode b = some name)
    (hset : s.params.set name v = (inRange lo hi v).map update)
    (htarget : (update v).noticeTarget = s.params.noticeTarget) (hold : s.params.code name = old) :
    (lo ≤ v ∧ v ≤ hi → exec (.paramSet p) s
        = .next (repliedTo p f { s.beginTaking p with params := update v } .ok (bytesOf 2 old)))
      ∧ (v < lo ∨ hi < v → exec (.paramSet p) s = .next (repliedTo p f (s.beginTaking p) .badOperand [])) := by
  refine ⟨fun hin => exec_answered (rule := paramSetRule) rfl h rfl (.inl hr) ?_, fun hout =>
    exec_declined (rule := paramSetRule) rfl h rfl (.inl hr) ?_⟩
  · have hparams : (s.beginTaking p).params.set name v = some (update v) := by
      rw [beginTaking_params, hset, inRange_inside hin]
      rfl
    rw [paramSetRule_set _ hb hv hparams, beginTaking_params, if_pos htarget, hold]
    rfl
  · have hparams : (s.beginTaking p).params.set name v = none := by
      rw [beginTaking_params, hset, inRange_outside hout]
      rfl
    exact paramSetRule_outside _ hb hv hparams

theorem noticeTargetOfCode_none (h : v / 256 = 0) : noticeTargetOfCode v = some none := if_pos h

theorem noticeTargetOfCode_some {q : ReqId} (hq : q ≠ 0) (port : PortId) :
    noticeTargetOfCode (q.toNat * 256 + (if port = .lp0 then 0 else 1)) = some (some (q, port)) := by
  have hport : (if port = PortId.lp0 then 0 else 1) < 2 := by split <;> omega
  generalize hk : (if port = PortId.lp0 then 0 else 1) = k at hport ⊢
  have hq0 : q.toNat ≠ 0 := fun h => hq (BitVec.eq_of_toNat_eq h)
  have hhigh : (q.toNat * 256 + k) / 256 = q.toNat := by omega
  have hlow : (q.toNat * 256 + k) % 256 = k := by omega
  have hcode : portOfCode (BitVec.ofNat 8 k) = some port := by
    subst hk
    cases port <;> rfl
  have hlt := q.isLt
  rw [noticeTargetOfCode, hhigh, hlow, if_neg hq0, if_neg (by omega), hcode, BitVec.ofNat_toNat, BitVec.setWidth_eq]
  rfl

theorem noticeTargetOfCode_outside (h : 31 < v / 256 ∨ 1 ≤ v / 256 ∧ 1 < v % 256) : noticeTargetOfCode v = none := by
  unfold noticeTargetOfCode
  split
  next => omega
  next =>
    split
    next => rfl
    next =>
      have hcode : portOfCode (BitVec.ofNat 8 (v % 256)) = none := by
        unfold portOfCode
        rw [BitVec.toNat_ofNat]
        split
        next => omega
        next => omega
        next => rfl
      rw [hcode]
      rfl

/-- The notice state after NOTICE_TARGET is set to a value (R161). -/
theorem paramSet_target (target : Option (ReqId × PortId)) :
    (if target = s.params.noticeTarget then { s with params := { s.params with noticeTarget := target } }
      else { s with params := { s.params with noticeTarget := target } }.retarget)
      = { s with
          params := { s.params with noticeTarget := target }
          notice := if target = s.params.noticeTarget then s.notice else if target = none ∨ s.log = [] then .armed else .pending }
      := by
  split
  next => rfl
  next =>
    cases target with
    | none => simp [State.retarget]
    | some t =>
      simp only [State.retarget, List.isEmpty_iff, reduceCtorEq, false_or]

end ParamSet

/-- Settles O40, identifier by identifier. -/
theorem paramSetWritesOneParameter : Obligations.ParamSetWritesOneParameter := by
  intro s p f id v hid hv hr h ps begun bad numeric target
  refine ⟨?_, ?_, ?_, ?_, ?_, ?_, ?_, ?_, ?_, ?_⟩
  · rintro rfl
    exact exec_paramSet_numeric (name := .holdTime) (update := fun v => { ps with holdTime := v }) h hr hv rfl rfl rfl rfl
  · rintro rfl
    exact exec_paramSet_numeric (name := .coalesceIdle) (update := fun v => { ps with coalesceIdle := v }) h hr hv rfl rfl rfl rfl
  · rintro rfl
    exact exec_paramSet_numeric (name := .openLimit) (update := fun v => { ps with openLimit := v }) h hr hv rfl rfl rfl rfl
  · rintro rfl
    exact exec_paramSet_numeric (name := .grantLife) (update := fun v => { ps with grantLife := v }) h hr hv rfl rfl rfl rfl
  · rintro rfl
    exact exec_paramSet_numeric (name := .opTimeout) (update := fun v => { ps with opTimeout := v }) h hr hv rfl rfl rfl rfl
  · rintro rfl
    exact exec_paramSet_numeric (name := .retryLimit) (update := fun v => { ps with retryLimit := v }) h hr hv rfl rfl rfl rfl
  · rintro rfl
    exact exec_paramSet_numeric (name := .offlineStreak) (update := fun v => { ps with offlineStreak := v }) h hr hv rfl rfl rfl
      rfl
  · rintro rfl
    exact exec_paramSet_numeric (name := .slotsPerReq) (update := fun v => { ps with slotsPerReq := v }) h hr hv rfl rfl rfl rfl
  · rintro rfl
    have htarget {new : Option (ReqId × PortId)} (hnew : noticeTargetOfCode v = some new) : target new := by
      refine exec_answered (rule := paramSetRule) rfl h rfl (.inl hr) ?_
      have hset : (s.beginTaking p).params.set .noticeTarget v = some { ps with noticeTarget := new } := by
        rw [beginTaking_params, Params.set, hnew]
        rfl
      have hstate : (if new = ps.noticeTarget then { begun with params := { ps with noticeTarget := new } }
          else { begun with params := { ps with noticeTarget := new } }.retarget)
          = { begun with
              params := { ps with noticeTarget := new }
              notice := if new = ps.noticeTarget then s.notice else if new = none ∨ s.log = [] then .armed else .pending } := by
        cases p with
        | lp0 => exact paramSet_target (s := s.beginTaking .lp0) new
        | lp1 => exact paramSet_target (s := s.beginTaking .lp1) new
      rw [paramSetRule_set (name := .noticeTarget) _ rfl hv hset, beginTaking_params]
      refine congrArg₂ (fun t bytes => (t, MgmtResult.ok, bytes)) hstate ?_
      change bytesOf 2 (noticeTargetCode ps.noticeTarget) = _
      cases ps.noticeTarget with
      | none => rfl
      | some t => exact noticeTargetBytes_some t.1 t.2
    refine ⟨fun h0 => htarget (noticeTargetOfCode_none h0), ?_, fun hout => ?_⟩
    · rintro q port hq rfl
      exact htarget (noticeTargetOfCode_some hq port)
    · refine exec_declined (rule := paramSetRule) rfl h rfl (.inl hr) (paramSetRule_outside (name := .noticeTarget) _ rfl hv ?_)
      rw [beginTaking_params, Params.set, noticeTargetOfCode_outside hout]
      rfl
  · intro hout
    refine exec_declined (rule := paramSetRule) rfl h rfl (.inl hr) ?_
    have hcode : paramOfCode (BitVec.ofNat 8 id) = none := by
      unfold paramOfCode
      rw [BitVec.toNat_ofNat, Nat.mod_eq_of_lt hid]
      split
      case h_10 => rfl
      all_goals omega
    simp only [paramSetRule, byteAt, List.getD_cons_zero, hcode]

/-! #### RESTART (R150, R152, R153) -/

theorem working_iff (ch : Channel) : ch.state.working = true ↔ ch.state = .busy ∨ ch.state = .quiescing := by
  cases ch.state <;> simp [ChannelState.working]

theorem drained_eq (ch : Channel) :
    ch.drained = { ch with queue := if ch.state = .busy ∨ ch.state = .quiescing then ch.queue.take 1 else [] } := by
  simp only [Channel.drained, working_iff]

theorem still_iff (s : State) :
    s.still = true ↔ ¬ (s.sc0.state = .busy ∨ s.sc0.state = .quiescing) ∧ ¬ (s.sc1.state = .busy ∨ s.sc1.state = .quiescing) := by
  rw [← working_iff, ← working_iff, State.still, Bool.and_eq_true, Bool.not_eq_true', Bool.not_eq_true', Bool.not_eq_true,
    Bool.not_eq_true]

theorem settleRestart_waits {s : State} (h : s.restart = none ∨ s.still = false) : s.settleRestart = s := by
  unfold State.settleRestart
  split
  next q hq =>
    rcases h with h | h
    · rw [hq] at h; cases h
    · rw [h]; rfl
  next => rfl

theorem settleRestart_completes {s : State} {q : ReqId} (hq : s.restart = some q) (h : s.still = true) :
    s.settleRestart = s.completeRestart q := by
  simp only [State.settleRestart, hq, h, if_true]

/-- Settles O42: the taking drains both queues and settles, and a settling completes exactly when both channels are still. -/
theorem restartDrainsAndCompletes : Obligations.RestartDrainsAndCompletes := by
  unfold Obligations.RestartDrainsAndCompletes
  intro working rested completed
  have hsettle (s : State) : (s.restart = none ∨ working s.sc0 ∨ working s.sc1 → s.settleRestart = s)
      ∧ ∀ q, s.restart = some q → ¬ working s.sc0 → ¬ working s.sc1 → s.settleRestart = completed s q := by
    refine ⟨fun h => settleRestart_waits ?_, fun q hq h0 h1 => settleRestart_completes hq ((still_iff s).mpr ⟨h0, h1⟩)⟩
    rcases h with h | h | h
    · exact .inl h
    · exact .inr (Bool.eq_false_iff.mpr fun hs => ((still_iff s).mp hs).1 h)
    · exact .inr (Bool.eq_false_iff.mpr fun hs => ((still_iff s).mp hs).2 h)
  refine ⟨?_, hsettle⟩
  intro s p f h drained taken
  have htaken : (s.beginTaking p).takeRestart (frameRequester f) = taken.settleRestart := by
    rw [State.takeRestart, drained_eq, drained_eq, beginTaking_sc0, beginTaking_sc1]
  refine ⟨fun hr => ?_, fun hr hw => ?_, fun hr h0 h1 => ?_⟩
  · obtain ⟨q, hq⟩ := Option.ne_none_iff_exists'.mp hr
    refine exec_answered (rule := restartRule) rfl h rfl (.inr rfl) ?_
    simp only [restartRule, beginTaking_restart, hq]
    rfl
  · refine exec_answered (rule := restartRule) rfl h rfl (.inr rfl) ?_
    simp only [restartRule, beginTaking_restart, hr, htaken, (hsettle taken).1 (.inr hw), bytesOf_one, ofNat_flagCode]
    rfl
  · refine exec_answered (rule := restartRule) rfl h rfl (.inr rfl) ?_
    have hdone := (hsettle taken).2 (frameRequester f) rfl h0 h1
    have hreply : bytesOf 1 (flagCode (completed taken (frameRequester f)).restartPending) = [0] := by
      rw [append_restartPending, bytesOf_one, ofNat_flagCode]
      rfl
    simp only [restartRule, beginTaking_restart, hr, htaken, hdone, answerOk, hreply]

end Sys2Proof.Machine

/-! ### Seals and the enqueue rule (R31, R37, R38, R67) -/

namespace Sys2Proof.Machine

/-! #### A buffer becomes HELD (R31, R42, R67) -/

/-- A buffer with another phase. -/
abbrev Buffer.inPhase (x : Buffer) (phase : BufferPhase) : Buffer := { x with phase := phase }

theorem memberHeld_slots (b : BufferId) (cause : HoldCause) (hold : Micros) (slots : Vector (Option Slot) 8) :
    slots.map (Option.map (Slot.memberHeld b cause hold)) = failWaiting b cause.slotCause hold slots := rfl

section Hold
variable {s : State} {b : BufferId} {x : Buffer} {cause : HoldCause}

theorem holdBuffer_eq (hx : s.buffer b = some x) :
    s.holdBuffer b cause = { s.setBuffer b (some (x.inPhase (.held cause))) with
      slots := failWaiting b cause.slotCause s.params.holdTime s.slots } := by
  simp only [State.holdBuffer, State.modifyBuffer, hx, State.mapSlots, memberHeld_slots]
  rfl

theorem holdBuffer_buffer (s : State) (b : BufferId) (cause : HoldCause) (b' : BufferId) :
    (s.holdBuffer b cause).buffer b' = (s.buffer b').map fun x => if b' = b then x.inPhase (.held cause) else x := by
  cases hb : s.buffer b with
  | none =>
    have h : (s.holdBuffer b cause).buffer b' = s.buffer b' := by
      simp only [State.holdBuffer, State.modifyBuffer, hb]
      rfl
    rw [h]
    by_cases hbb : b' = b
    · subst hbb; rw [hb]; rfl
    · simp [hbb]
  | some x =>
    rw [holdBuffer_eq hb]
    change (s.setBuffer b _).buffer b' = _
    rw [State.setBuffer_buffer]
    by_cases hbb : b' = b
    · subst hbb; simp [hb]
    · simp [hbb]

/-- A hold changes buffers and slots alone. -/
theorem holdBuffer_rest (s : State) (b : BufferId) (cause : HoldCause) :
    s.holdBuffer b cause = { s with
      buffers := (s.holdBuffer b cause).buffers
      slots := failWaiting b cause.slotCause s.params.holdTime s.slots } := by
  cases hb : s.buffer b with
  | none =>
    simp only [State.holdBuffer, State.modifyBuffer, hb, State.mapSlots, memberHeld_slots]
  | some x => rw [holdBuffer_eq hb]; rfl

/-! #### A seal (R31) -/

theorem sealBuffer_left (h : s.bufferHas b Buffer.isOpen = false) : s.sealBuffer b = s := by
  unfold State.sealBuffer
  split
  next x hx => rw [bufferHas_of_some hx] at h; rw [h]; rfl
  next => rfl

theorem sealBuffer_online (hx : s.buffer b = some x) (ho : x.isOpen = true)
    (hc : (s.channel x.channel).state.online = true) : s.sealBuffer b = (s.listSealed b x).tryEnqueue x.channel := by
  simp only [State.sealBuffer, hx, ho, hc, if_true]

theorem sealBuffer_offline (hx : s.buffer b = some x) (ho : x.isOpen = true)
    (hc : (s.channel x.channel).state.online = false) : s.sealBuffer b = s.holdBuffer b .channelOffline := by
  simp only [State.sealBuffer, hx, ho, hc, Bool.false_eq_true, if_true, if_false]

end Hold

/-- Settles O43, by the phase of the buffer and the state of its channel. -/
theorem sealOfAnOpenBuffer : Obligations.SealOfAnOpenBuffer := by
  intro s b
  refine ⟨sealBuffer_left, fun x hx ho => ⟨sealBuffer_online hx ho, ?_⟩⟩
  intro hc t
  have ht : t = s.holdBuffer b .channelOffline := sealBuffer_offline hx ho hc
  refine ⟨?_, fun b' hb' => ?_, ?_⟩
  · rw [ht, holdBuffer_buffer, hx, Option.map_some, if_pos rfl]
  · rw [ht, holdBuffer_buffer]
    simp [hb']
  · rw [ht]
    exact holdBuffer_rest ..

/-! #### The enqueue rule (R37, R38) -/

section Enqueue
variable {s t : State} {c : ChannelId} {b : BufferId} {x : Buffer}

theorem tryEnqueue_stuck (h : s.movable c = none) : s.tryEnqueue c = s := by
  unfold State.tryEnqueue
  cases s.sealList.length with
  | zero => rfl
  | succ n => rw [State.enqueueUpTo, h]

/-- What a move requires. -/
theorem movable_some (h : s.movable c = some (b, x)) :
    s.restart = none ∧ (s.channel c).state.online = true ∧ s.queueHasRoom c = true ∧ s.firstSealed c = some b
      ∧ s.buffer b = some x ∧ s.olderBlocks b x = false := by
  unfold State.movable at h
  split at h
  next hfree =>
    split at h
    next b' hb' =>
      split at h
      next x' hx' =>
        simp only [Option.ite_none_left_eq_some, Bool.not_eq_true, Option.some.injEq, Prod.mk.injEq] at h
        obtain ⟨hold, rfl, rfl⟩ := h
        simp only [Bool.and_eq_true, Bool.not_eq_true', State.restartPending, Option.isSome_eq_false_iff, Option.isNone_iff_eq_none]
          at hfree
        exact ⟨hfree.1.1, hfree.1.2, hfree.2, hb', hx', hold⟩
      next => cases h
    next => cases h
  next => cases h

theorem movable_of (hr : s.restart = none) (hc : (s.channel c).state.online = true) (hroom : s.queueHasRoom c = true)
    (hb : s.firstSealed c = some b) (hx : s.buffer b = some x) (hold : s.olderBlocks b x = false) :
    s.movable c = some (b, x) := by
  simp [State.movable, State.restartPending, hr, hc, hroom, hb, hx, hold]

/-- The buffer moved is on the seal list, on the channel. -/
theorem firstSealed_some (h : s.firstSealed c = some b) : b ∈ s.sealList ∧ s.bufferHas b (fun x => x.channel == c) = true :=
  ⟨List.mem_of_find?_eq_some h, List.find?_some (p := fun b => s.bufferHas b fun x => x.channel == c) h⟩

theorem movable_mem (h : s.movable c = some (b, x)) : b ∈ s.sealList ∧ x.channel = c := by
  obtain ⟨-, -, -, hb, hx, -⟩ := movable_some h
  obtain ⟨hmem, hc⟩ := firstSealed_some hb
  rw [bufferHas_of_some hx, beq_iff_eq] at hc
  exact ⟨hmem, hc⟩

theorem moveToQueue_sealList : (s.moveToQueue c b x).sealList = s.sealList.filter (· ≠ b) := by
  rw [State.moveToQueue, appendOp_sealList]

/-- The enqueue rule is a run of moves. -/
inductive Moves (c : ChannelId) : State → State → Prop where
  | stuck (s : State) : Moves c s s
  | move {s t : State} (b : BufferId) (x : Buffer) (h : s.movable c = some (b, x)) (hm : Moves c (s.moveToQueue c b x) t) :
      Moves c s t

theorem moves_enqueueUpTo (c : ChannelId) (n : Nat) (s : State) : Moves c s (State.enqueueUpTo c n s) := by
  induction n generalizing s with
  | zero => exact .stuck s
  | succ n ih =>
    unfold State.enqueueUpTo
    split
    next b x h => exact .move b x h (ih _)
    next => exact .stuck s

theorem moves_tryEnqueue (s : State) (c : ChannelId) : Moves c s (s.tryEnqueue c) := moves_enqueueUpTo ..

/-- A move is followed by another try, when the seal list names no buffer twice. -/
theorem tryEnqueue_move (hn : s.sealList.Nodup) (h : s.movable c = some (b, x)) :
    s.tryEnqueue c = (s.moveToQueue c b x).tryEnqueue c := by
  obtain ⟨hmem, -⟩ := movable_mem h
  have hlen : s.sealList.length = (s.moveToQueue c b x).sealList.length + 1 := by
    have herase : s.sealList.filter (· ≠ b) = s.sealList.erase b := by
      rw [hn.erase_eq_filter]
      exact List.filter_congr fun a _ => by rw [Bool.eq_iff_iff, decide_eq_true_eq, bne_iff_ne]
    rw [moveToQueue_sealList, herase, List.length_erase_of_mem hmem]
    have := List.length_pos_of_mem hmem
    omega
  rw [State.tryEnqueue, hlen, State.enqueueUpTo, h]
  rfl

end Enqueue

/-- What stands before an element of a list without repetitions, and what stays when it is removed. -/
theorem takeWhile_ne_eq {α : Type} [DecidableEq α] {before after : List α} {b : α} (h : b ∉ before) :
    (before ++ b :: after).takeWhile (· ≠ b) = before := by
  rw [List.takeWhile_append_of_pos (fun a ha => by simpa using fun hab : a = b => h (hab ▸ ha))]
  simp

theorem filter_ne_eq {α : Type} [DecidableEq α] {before after : List α} {b : α} (h : (before ++ b :: after).Nodup) :
    (before ++ b :: after).filter (· ≠ b) = before ++ after := by
  obtain ⟨-, hafter, hdisjoint⟩ := List.nodup_append.mp h
  have hb : b ∉ before := fun hmem => hdisjoint b hmem b (List.mem_cons_self ..) rfl
  have ha : b ∉ after := (List.nodup_cons.mp hafter).1
  rw [List.filter_append, List.filter_cons_of_neg (by simp),
    List.filter_eq_self.mpr fun a hmem => by simpa using fun hab : a = b => hb (hab ▸ hmem),
    List.filter_eq_self.mpr fun a hmem => by simpa using fun hab : a = b => ha (hab ▸ hmem)]

/-- Settles O44: a move is made exactly when `movable` finds the first SEALED buffer free to go. -/
theorem enqueueRuleMovesTheFirstSealed : Obligations.EnqueueRuleMovesTheFirstSealed := by
  intro s c hl
  obtain ⟨hopen, -, hseal, -⟩ := hl
  have hother {b : BufferId} (h : ∀ y, s.buffer b = some y → y.channel ≠ c) :
      s.bufferHas b (fun x => x.channel == c) = false := by
    rw [Bool.eq_false_iff]
    intro hhas
    obtain ⟨y, hy, hc⟩ := bufferHas_iff.mp hhas
    exact h y hy (beq_iff_eq.mp hc)
  refine ⟨fun hnone => tryEnqueue_stuck ?_, ?_⟩
  · have hfirst : s.firstSealed c = none := List.find?_eq_none.mpr fun b hb => by simp [hother (hnone b hb)]
    simp [State.movable, hfirst]
  intro b x before after older newer hsplit hbefore hx hc horder free
  have hfirst : s.firstSealed c = some b := by
    rw [State.firstSealed, hsplit, List.find?_append,
      List.find?_eq_none.mpr fun m hm => by simp [hother (hbefore m hm)], Option.none_or]
    exact List.find?_cons_of_pos (by simp [bufferHas_of_some hx, hc])
  have holder : s.olderBlocks b x = false
      ↔ ∀ o ∈ older, ∀ y, s.buffer o = some y → y.channel = c → y.page = x.page → y.isOpen = true := by
    have hb : b ∉ older := by
      rw [horder, List.nodup_append] at hopen
      exact fun hmem => hopen.2.2 b hmem b (List.mem_cons_self ..) rfl
    rw [State.olderBlocks, horder, takeWhile_ne_eq hb, List.any_eq_false]
    simp only [bufferHas_iff, Bool.and_eq_true, isOn_iff, Bool.not_eq_true', not_exists, not_and, Bool.not_eq_false, hc, and_imp]
  have hroom : s.queueHasRoom c = true ↔ (s.channel c).queue.length < 16 := queueHasRoom_iff s c
  constructor
  · rintro ⟨hr, hon, hlen, hblock⟩
    rw [tryEnqueue_move hseal (movable_of hr hon (hroom.mpr hlen) hfirst hx (holder.mpr hblock)), State.moveToQueue,
      hsplit, filter_ne_eq (hsplit ▸ hseal)]
  · intro hno
    refine tryEnqueue_stuck ?_
    rw [Option.eq_none_iff_forall_ne_some]
    rintro ⟨b', x'⟩ hsome
    obtain ⟨hr, hon, hlen, hb', hx', hblock⟩ := movable_some hsome
    cases hfirst.symm.trans hb'
    cases hx.symm.trans hx'
    exact hno ⟨hr, hon, hroom.mp hlen, holder.mp hblock⟩

end Sys2Proof.Machine

/-! ### Starts, leavings and the offline entry of a channel (R40, R43, R54, R75, R78, R79, R87, R88); the retry of a buffer -/

namespace Sys2Proof.Machine

/-! #### The start of an attempt (R78) -/

section Start
variable {s : State} {c : ChannelId} {op : Op} {rest : List Op}

/-- The operation with one attempt more. -/
def Op.next (op : Op) : Op := { op with attempts := op.attempts + 1 }

theorem startHead_cons (h : (s.channel c).queue = op :: rest) :
    s.startHead c = (s.setChannel c
      ((s.channel c).started op.next rest (s.params.opTimeout * 1000) (s.requestOf op.kind))).attemptStarted op.next
        ((s.channel c).number + 1) := by
  rw [State.startHead, h]
  rfl

theorem attemptStarted_clear {sector : BitVec 12} {q : ReqId} (h : op.kind = .clear sector q) (n : BitVec 8) :
    s.attemptStarted op n = s := by simp only [State.attemptStarted, h]

theorem attemptStarted_fetch {pg : BitVec 16} {o n : Nat} {i : SlotId} {x : Slot} {r : ReadWork}
    (h : op.kind = .fetch pg o n i) (hx : s.slot i = some x) (hr : x.work = .read r) (number : BitVec 8) :
    s.attemptStarted op number = s.setSlot i (some { x with work := .read { r with number := some number } }) := by
  simp only [State.attemptStarted, h, State.slotAttempt, hx, Slot.attemptStarted, hr]

theorem attemptStarted_program {pg : BitVec 16} {b : BufferId} {x : Buffer} (h : op.kind = .program pg b)
    (hx : s.buffer b = some x) (number : BitVec 8) :
    s.attemptStarted op number = s.setBuffer b (some { x with phase := .programming, attempts := op.attempts }) := by
  simp only [State.attemptStarted, h, State.modifyBuffer, hx]

theorem requestOf_program {pg : BitVec 16} {b : BufferId} {x : Buffer} (hx : s.buffer b = some x) :
    s.requestOf (.program pg b) = .program pg x.staged := by simp only [State.requestOf, hx]

end Start

/-! #### What the enqueue rule does to the channel -/

section Leaving
variable {s t : State} {c : ChannelId}

/-- The buffer b, as x, taken off the seal list to be QUEUED. -/
def State.takenOff (s : State) (b : BufferId) (x : Buffer) : State :=
  { s.setBuffer b (some { x with phase := .queued, attempts := 0 }) with sealList := s.sealList.filter (· ≠ b) }

theorem moveToQueue_eq (b : BufferId) (x : Buffer) :
    s.moveToQueue c b x = (s.takenOff b x).appendOp c (.program x.page b) := rfl

theorem takenOff_channel (b : BufferId) (x : Buffer) (c : ChannelId) : (s.takenOff b x).channel c = s.channel c := by
  cases c <;> rfl

theorem appendOp_behind (h : (s.channel c).state ≠ .idle) (k : OpKind) :
    s.appendOp c k = s.setChannel c { s.channel c with queue := (s.channel c).queue ++ [⟨k, 0⟩] } := by
  simp only [State.appendOp, if_neg h]

/-- On a BUSY channel every move joins an operation at the tail. -/
theorem moveToQueue_busy (hb : (s.channel c).state = .busy) (b : BufferId) (x : Buffer) :
    (s.moveToQueue c b x).channel c
      = { s.channel c with queue := (s.channel c).queue ++ [⟨.program x.page b, 0⟩] } := by
  rw [moveToQueue_eq, appendOp_behind (by rw [takenOff_channel, hb]; decide), State.setChannel_channel_self, takenOff_channel]

theorem moves_channel_busy (h : Moves c s t) (hb : (s.channel c).state = .busy) :
    ∃ extra, t.channel c = { s.channel c with queue := (s.channel c).queue ++ extra } ∧ (extra = [] → t = s) := by
  induction h with
  | stuck s => exact ⟨[], by rw [List.append_nil], fun _ => rfl⟩
  | @move s t b x hm _ ih =>
    have hchannel := moveToQueue_busy hb b x
    obtain ⟨extra, ht, -⟩ := ih (by rw [hchannel]; exact hb)
    exact ⟨_ :: extra, by rw [ht, hchannel, List.append_assoc]; rfl, fun hno => by cases hno⟩

theorem moves_busy (h : Moves c s t) (hb : (s.channel c).state = .busy) :
    (t.channel c).state = .busy ∧ ((t.channel c).queue = [] → t = s) := by
  obtain ⟨extra, ht, hno⟩ := moves_channel_busy h hb
  rw [ht]
  exact ⟨hb, fun hq => hno (List.append_eq_nil_iff.mp hq).2⟩

theorem movable_quiescing (h : (s.channel c).state.online = false) : s.movable c = none := by simp [State.movable, h]

theorem afterLeaving_busy (hb : (s.channel c).state = .busy) (hq : ((s.tryEnqueue c).channel c).queue ≠ []) :
    s.afterLeaving c = (s.tryEnqueue c).startHead c := by
  obtain ⟨hstate, -⟩ := moves_busy (moves_tryEnqueue s c) hb
  simp only [State.afterLeaving, hstate, List.isEmpty_iff, hq, if_false]

theorem afterLeaving_idle (hb : (s.channel c).state = .busy) (hq : ((s.tryEnqueue c).channel c).queue = []) :
    s.afterLeaving c = s.setChannel c { s.channel c with state := .idle } := by
  obtain ⟨hstate, hsame⟩ := moves_busy (moves_tryEnqueue s c) hb
  have hsame := hsame hq
  rw [hsame] at hq
  simp only [State.afterLeaving, hsame, hb, List.isEmpty_iff, hq, if_true]

theorem afterLeaving_quiescing (h : (s.channel c).state = .quiescing) : s.afterLeaving c = s.offlineEntry c .requested := by
  have hstuck : s.tryEnqueue c = s := tryEnqueue_stuck (movable_quiescing (by rw [h]; rfl))
  simp only [State.afterLeaving, hstuck, h]

end Leaving

/-- Settles O45, by the owner of the operation started and the state of the channel it leaves. -/
theorem channelStartsAndGoesOn : Obligations.ChannelStartsAndGoesOn := by
  intro s c op rest ch started
  refine ⟨fun hq => ⟨fun sector q hk => ?_, fun pg o n i x r hk hx hr => ?_, fun pg b x hk hx => ?_⟩,
    fun k => ⟨fun hi => ?_, fun hi => ?_⟩, afterLeaving_busy, afterLeaving_idle, afterLeaving_quiescing⟩
  · rw [startHead_cons hq, attemptStarted_clear (op := op.next) hk, hk]
    rfl
  · have hslot : ((s.setChannel c (ch.started op.next rest (s.params.opTimeout * 1000) (s.requestOf op.kind))).slot i) = some x := by
      rw [State.setChannel_slot, hx]
    rw [startHead_cons hq, attemptStarted_fetch (op := op.next) hk hslot hr, hk]
    rfl
  · have hbuffer : ((s.setChannel c (ch.started op.next rest (s.params.opTimeout * 1000) (s.requestOf op.kind))).buffer b) = some x := by
      rw [State.setChannel_buffer, hx]
    rw [startHead_cons hq, attemptStarted_program (op := op.next) hk hbuffer, hk, requestOf_program hx]
    rfl
  · simp only [State.appendOp]
    exact if_pos hi
  · exact appendOp_behind hi k

/-! #### The offline entry (R88) -/

section Removed
variable {c : ChannelId} {u : State} {op : Op}

theorem opRemoved_clear {sector : BitVec 12} {q : ReqId} (h : op.kind = .clear sector q) :
    State.opRemoved c u op = u.append (.clearFailed c q sector .channelOffline) := by simp only [State.opRemoved, h]

theorem opRemoved_fetch {pg : BitVec 16} {o n : Nat} {i : SlotId} {x : Slot} {r : ReadWork} (h : op.kind = .fetch pg o n i)
    (hx : u.slot i = some x) (hw : x.work = .read r) (hp : x.phase = .fetching) :
    State.opRemoved c u op = u.setSlot i (some { x with phase := .failed .channelOffline u.params.holdTime }) := by
  simp only [State.opRemoved, h, State.fetchRemoved, hx, hw, hp]

theorem opRemoved_program {pg : BitVec 16} {b : BufferId} (h : op.kind = .program pg b) :
    State.opRemoved c u op = u.holdBuffer b .channelOffline := by simp only [State.opRemoved, h]

end Removed

/-- t has the channels and the lists of the pool of s. -/
structure SameQueues (s t : State) : Prop where
  sc0 : t.sc0 = s.sc0
  sc1 : t.sc1 = s.sc1
  openOrder : t.openOrder = s.openOrder
  sealList : t.sealList = s.sealList

section SameQueues
variable {s t u : State}

theorem SameQueues.refl (s : State) : SameQueues s s := ⟨rfl, rfl, rfl, rfl⟩

theorem SameQueues.trans (h : SameQueues s t) (k : SameQueues t u) : SameQueues s u :=
  ⟨k.sc0.trans h.sc0, k.sc1.trans h.sc1, k.openOrder.trans h.openOrder, k.sealList.trans h.sealList⟩

theorem SameQueues.channel (h : SameQueues s t) (c : ChannelId) : t.channel c = s.channel c := by
  cases c
  · exact h.sc0
  · exact h.sc1

theorem sameQueues_holdBuffer (s : State) (b : BufferId) (cause : HoldCause) : SameQueues s (s.holdBuffer b cause) := by
  rw [holdBuffer_rest]
  exact ⟨rfl, rfl, rfl, rfl⟩

theorem sameQueues_append (e : Event) (s : State) : SameQueues s (s.append e) :=
  ⟨append_sc0 e s, append_sc1 e s, append_openOrder e s, append_sealList e s⟩

theorem sameQueues_fetchRemoved (s : State) (i : SlotId) : SameQueues s (s.fetchRemoved i) := by
  unfold State.fetchRemoved
  split
  next =>
    split
    next => exact ⟨rfl, rfl, rfl, rfl⟩
    next => exact .refl s
  next => exact .refl s

theorem sameQueues_opRemoved (c : ChannelId) (s : State) (op : Op) : SameQueues s (State.opRemoved c s op) := by
  unfold State.opRemoved
  split
  next => exact sameQueues_fetchRemoved ..
  next => exact sameQueues_holdBuffer ..
  next => exact sameQueues_append ..

theorem sameQueues_foldl_opRemoved (c : ChannelId) (ops : List Op) (s : State) :
    SameQueues s (ops.foldl (State.opRemoved c) s) := by
  induction ops generalizing s with
  | nil => exact .refl s
  | cons op ops ih => exact (sameQueues_opRemoved c s op).trans (ih _)

end SameQueues

/-- Several buffers go HELD one after the other. -/
theorem foldl_holdBuffer (bs : List BufferId) (cause : HoldCause) (s : State) :
    (∀ b, (bs.foldl (fun t b => t.holdBuffer b cause) s).buffer b
        = (s.buffer b).map fun x => if b ∈ bs then x.inPhase (.held cause) else x)
      ∧ bs.foldl (fun t b => t.holdBuffer b cause) s = { s with
          buffers := (bs.foldl (fun t b => t.holdBuffer b cause) s).buffers
          slots := bs.foldl (fun slots b => failWaiting b cause.slotCause s.params.holdTime slots) s.slots } := by
  induction bs generalizing s with
  | nil => exact ⟨fun b => by cases h : s.buffer b <;> simp [h], rfl⟩
  | cons a bs ih =>
    obtain ⟨hbuffers, hrest⟩ := ih (s.holdBuffer a cause)
    rw [List.foldl_cons]
    refine ⟨fun b => ?_, ?_⟩
    · rw [hbuffers, holdBuffer_buffer, Option.map_map]
      congr 1
      funext x
      by_cases ha : b = a <;> by_cases hb : b ∈ bs <;> simp [ha, hb, Buffer.inPhase]
    · rw [hrest, holdBuffer_rest]
      rfl

/-- Settles O46: the SEALED buffers of the channel go HELD after the owners of the queued operations are told. -/
theorem offlineEntryTellsEveryOwner : Obligations.OfflineEntryTellsEveryOwner := by
  intro s c cause fails
  refine ⟨fun u op hp => ⟨fun sector q hk => opRemoved_clear hk, fun pg o n i x r hk hx hw hph => ?_, fun pg b x hk hx => ?_⟩, ?_⟩
  · rw [opRemoved_fetch hk hx hw hph, hp]
  · rw [opRemoved_program hk, holdBuffer_eq hx, hp]
    rfl
  have hqueues := sameQueues_foldl_opRemoved c (s.channel c).queue s
  have hparams : ((s.channel c).queue.foldl (State.opRemoved c) s).params = s.params :=
    (inside_foldl _ (inside_opRemoved c) (s.channel c).queue s).params
  generalize hu : (s.channel c).queue.foldl (State.opRemoved c) s = u at hqueues hparams
  obtain ⟨hbuffers, hrest⟩ := foldl_holdBuffer (u.sealList.filter fun b => u.bufferHas b fun x => x.channel == c)
    .channelOffline { u with sealList := u.sealList.filter fun b => !u.bufferHas b fun x => x.channel == c }
  have hv : u.holdSealed c = _ := hrest
  refine ⟨u, u.holdSealed c, rfl, fun b => ?_, ?_, ?_⟩
  · refine (hbuffers b).trans ?_
    change (u.buffer b).map _ = _
    cases hb : u.buffer b with
    | none => rfl
    | some x => simp [hqueues.sealList, bufferHas_of_some hb]
  · rw [hv, hqueues.sealList, hparams]
    rfl
  · have hchannel : (u.holdSealed c).channel c = s.channel c := by
      rw [hv, ← hqueues.channel c]
      cases c <;> rfl
    rw [State.offlineEntry, hu, hchannel]

end Sys2Proof.Machine

/-! ### What starts and moves do to the buffers, the retry of a buffer, and the end of a grant (R36, R100, R101, R117) -/

namespace Sys2Proof.Machine

/-! #### On its way a buffer changes phase and attempts alone -/

/-- y is x, but perhaps further on its way to the store. -/
def Buffer.Onward (x y : Buffer) : Prop :=
  y = x ∨ ∃ attempts, y = { x with phase := .queued, attempts := attempts } ∨ y = { x with phase := .programming, attempts := attempts }

/-- Every buffer of t is that of s, but perhaps further on its way. -/
structure Onward (s t : State) : Prop where
  free : ∀ b, s.buffer b = none → t.buffer b = none
  live : ∀ b x, s.buffer b = some x → ∃ y, t.buffer b = some y ∧ x.Onward y

section Onward
variable {s t u : State} {b : BufferId} {x y z : Buffer}

theorem Buffer.Onward.trans (h : x.Onward y) (k : y.Onward z) : x.Onward z := by
  rcases k with rfl | ⟨n, rfl | rfl⟩
  · exact h
  · rcases h with rfl | ⟨m, rfl | rfl⟩ <;> exact .inr ⟨n, .inl rfl⟩
  · rcases h with rfl | ⟨m, rfl | rfl⟩ <;> exact .inr ⟨n, .inr rfl⟩

theorem Buffer.Onward.committing (h : x.Onward y) (hx : x.phase.committing = true) : y.phase.committing = true := by
  rcases h with rfl | ⟨n, rfl | rfl⟩
  · exact hx
  · rfl
  · rfl

theorem Onward.refl (s : State) : Onward s s := ⟨fun _ h => h, fun _ x h => ⟨x, h, .inl rfl⟩⟩

theorem onward_of_buffers (h : ∀ b, t.buffer b = s.buffer b) : Onward s t :=
  ⟨fun b hb => (h b).trans hb, fun b x hx => ⟨x, (h b).trans hx, .inl rfl⟩⟩

theorem Onward.trans (h : Onward s t) (k : Onward t u) : Onward s u := by
  refine ⟨fun b hb => k.free b (h.free b hb), fun b x hx => ?_⟩
  obtain ⟨y, hy, hxy⟩ := h.live b x hx
  obtain ⟨z, hz, hyz⟩ := k.live b y hy
  exact ⟨z, hz, hxy.trans hyz⟩

theorem onward_setBuffer (hx : s.buffer b = some x) (hxy : x.Onward y) : Onward s (s.setBuffer b (some y)) := by
  refine ⟨fun b' hb' => ?_, fun b' x' hx' => ?_⟩
  · rw [State.setBuffer_buffer]
    split
    next h => subst h; rw [hx] at hb'; cases hb'
    next => exact hb'
  · rw [State.setBuffer_buffer]
    split
    next h => subst h; cases hx.symm.trans hx'; exact ⟨y, rfl, hxy⟩
    next => exact ⟨x', hx', .inl rfl⟩

theorem onward_attemptStarted (s : State) (op : Op) (n : BitVec 8) : Onward s (s.attemptStarted op n) := by
  unfold State.attemptStarted
  split
  next =>
    unfold State.slotAttempt
    split
    next => exact onward_of_buffers fun _ => rfl
    next => exact .refl s
  next =>
    unfold State.modifyBuffer
    split
    next x hx => exact onward_setBuffer hx (.inr ⟨_, .inr rfl⟩)
    next => exact .refl s
  next => exact .refl s

theorem onward_setChannel (s : State) (c : ChannelId) (ch : Channel) : Onward s (s.setChannel c ch) :=
  onward_of_buffers fun b => State.setChannel_buffer s c ch b

theorem onward_startHead (s : State) (c : ChannelId) : Onward s (s.startHead c) := by
  unfold State.startHead
  split
  next => exact .refl s
  next => exact (onward_setChannel ..).trans (onward_attemptStarted ..)

theorem onward_appendOp (s : State) (c : ChannelId) (k : OpKind) : Onward s (s.appendOp c k) := by
  simp only [State.appendOp]
  split
  next => exact (onward_setChannel ..).trans (onward_startHead ..)
  next => exact onward_setChannel ..

theorem onward_moveToQueue (c : ChannelId) (hx : s.buffer b = some x) : Onward s (s.moveToQueue c b x) := by
  have htaken : Onward s (s.setBuffer b _) := onward_setBuffer hx (.inr ⟨0, .inl rfl⟩)
  have hlist : Onward (s.setBuffer b _) (s.takenOff b x) := onward_of_buffers fun _ => rfl
  exact (htaken.trans hlist).trans (onward_appendOp ..)

theorem Moves.onward {c : ChannelId} (h : Moves c s t) : Onward s t := by
  induction h with
  | stuck s => exact .refl s
  | move b x hm _ ih =>
    obtain ⟨-, -, -, -, hx, -⟩ := movable_some hm
    exact (onward_moveToQueue _ hx).trans ih

theorem onward_tryEnqueue (s : State) (c : ChannelId) : Onward s (s.tryEnqueue c) := (moves_tryEnqueue s c).onward

end Onward

/-! #### BUFFER_RETRY (R100, R101) -/

section Retry
variable {s : State} {b m : BufferId} {x : Buffer}

theorem isSealed_iff (x : Buffer) : x.isSealed = true ↔ x.phase = .sealed := by
  obtain ⟨_, _, _, _, _, _, phase, _⟩ := x
  cases phase <;> simp [Buffer.isSealed]

/-- The elements after the one at b, in a list without repetitions, by their places. -/
theorem mem_after_iff {α : Type} {before after : List α} {b m : α} (hn : (before ++ b :: after).Nodup) :
    m ∈ after ↔ ∃ i j : Nat, (before ++ b :: after)[i]? = some b ∧ (before ++ b :: after)[j]? = some m ∧ i < j := by
  have hb : (before ++ b :: after)[before.length]? = some b := by simp
  constructor
  · intro hm
    obtain ⟨k, hk⟩ := List.mem_iff_getElem?.mp hm
    refine ⟨before.length, before.length + (k + 1), hb, ?_, by omega⟩
    rw [List.getElem?_append_right (by omega), Nat.add_sub_cancel_left, List.getElem?_cons_succ, hk]
  · rintro ⟨i, j, hi, hj, hlt⟩
    have hilt : i < (before ++ b :: after).length := (List.getElem?_eq_some_iff.mp hi).1
    have hib : i = before.length := (List.getElem?_inj hilt hn).mp (hi.trans hb.symm)
    subst hib
    rw [List.getElem?_append_right (by omega)] at hj
    obtain ⟨k, hk⟩ : ∃ k, j - before.length = k + 1 := ⟨j - before.length - 1, by omega⟩
    rw [hk, List.getElem?_cons_succ] at hj
    exact List.mem_of_getElem? hj

theorem dropWhile_ne_eq {α : Type} [DecidableEq α] {before after : List α} {b : α} (h : b ∉ before) :
    (before ++ b :: after).dropWhile (· ≠ b) = b :: after := by
  rw [List.dropWhile_append_of_pos (fun a ha => by simpa using fun hab : a = b => h (hab ▸ ha))]
  simp

/-- The newer SEALED buffers of the page, by their places in the order of openings (R101). -/
abbrev State.NewerSealed (s : State) (b : BufferId) (x : Buffer) (m : BufferId) : Prop :=
  (∃ i j : Nat, s.openOrder[i]? = some b ∧ s.openOrder[j]? = some m ∧ i < j)
    ∧ ∃ y, s.buffer m = some y ∧ y.channel = x.channel ∧ y.page = x.page ∧ y.phase = .sealed

theorem newerSealed_eq (hl : s.listsLawful) (hx : s.buffer b = some x) :
    ∃ after : List BufferId, s.newerSealed b x = after.find? (fun o => s.bufferHas o fun y => y.isOn x.channel x.page && y.isSealed)
      ∧ ∀ m, s.NewerSealed b x m
        ↔ m ∈ after ∧ s.bufferHas m (fun y => y.isOn x.channel x.page && y.isSealed) = true := by
  obtain ⟨hnodup, hlive, -, -⟩ := hl
  have hmem : b ∈ s.openOrder := (hlive b).mpr (by rw [hx]; rfl)
  obtain ⟨before, after, hsplit⟩ := List.append_of_mem hmem
  rw [hsplit] at hnodup
  have hb : b ∉ before := fun h => (List.nodup_append.mp hnodup).2.2 b h b (List.mem_cons_self ..) rfl
  refine ⟨after, ?_, fun m => ?_⟩
  · rw [State.newerSealed, hsplit, dropWhile_ne_eq hb]
    rfl
  · rw [State.NewerSealed, hsplit, ← mem_after_iff hnodup, bufferHas_iff]
    simp only [Bool.and_eq_true, isOn_iff, isSealed_iff, and_assoc]

theorem sealListWith_tail (hl : s.listsLawful) (hx : s.buffer b = some x) (h : ∀ m, ¬ s.NewerSealed b x m) :
    s.sealListWith b x = s.sealList ++ [b] := by
  obtain ⟨after, hfind, hnewer⟩ := newerSealed_eq hl hx
  have hnone : s.newerSealed b x = none := by
    rw [hfind, List.find?_eq_none]
    exact fun m hm hhas => h m ((hnewer m).mpr ⟨hm, hhas⟩)
  simp only [State.sealListWith, hnone]

theorem insertBefore_eq {before after : List BufferId} (h : m ∉ before) :
    insertBefore b m (before ++ m :: after) = before ++ b :: m :: after := by
  induction before with
  | nil => simp [insertBefore]
  | cons a before ih =>
    have ha : a ≠ m := fun hm => h (hm ▸ List.mem_cons_self ..)
    have hrest : m ∉ before := fun hm => h (List.mem_cons_of_mem _ hm)
    rw [List.cons_append, insertBefore, if_neg ha, ih hrest, List.cons_append]

theorem sealListWith_before (hl : s.listsLawful) (hx : s.buffer b = some x) {before after : List BufferId}
    (hm : s.NewerSealed b x m) (hone : ∀ n, s.NewerSealed b x n → n = m) (hsplit : s.sealList = before ++ m :: after) :
    s.sealListWith b x = before ++ b :: m :: after := by
  obtain ⟨rest, hfind, hnewer⟩ := newerSealed_eq hl hx
  obtain ⟨-, -, hnodup, -⟩ := hl
  have hsome : s.newerSealed b x = some m := by
    obtain ⟨hmem, hhas⟩ := (hnewer m).mp hm
    cases hn : s.newerSealed b x with
    | none => exact absurd hhas (List.find?_eq_none.mp (hfind.symm.trans hn) m hmem)
    | some n =>
      have hn' := hfind.symm.trans hn
      have hhas' := List.find?_some hn'
      rw [hone n ((hnewer n).mpr ⟨List.mem_of_find?_eq_some hn', hhas'⟩)]
  have hnot : m ∉ before := by
    rw [hsplit, List.nodup_append] at hnodup
    exact fun h => hnodup.2.2 m h m (List.mem_cons_self ..) rfl
  simp only [State.sealListWith, hsome]
  rw [hsplit, insertBefore_eq hnot]

/-- The state a retried buffer is in after the enqueue try. -/
theorem retried_code {t : State} {y : Buffer} (hy : t.buffer b = some y) (hc : y.phase.committing = true) :
    BitVec.ofNat 8 (bufferStateCode (t.buffer b))
      = if t.bufferHas b Buffer.isSealed then 2 else if t.bufferHas b (fun y => y.phase == .queued) then 3 else 4 := by
  rw [bufferHas_of_some hy, bufferHas_of_some hy, hy]
  obtain ⟨_, _, _, _, _, _, phase, _⟩ := y
  cases phase with
  | opened => cases hc
  | held => cases hc
  | _ => rfl

end Retry

/-- Settles O35: the one newer SEALED buffer of the page, if there is one, is where `sealListWith` puts the buffer. -/
theorem retryReturnsTheBufferToTheSealList : Obligations.RetryReturnsTheBufferToTheSealList := by
  intro s p f b hr h
  have hid : idOfCode 12 (BitVec.ofNat 8 b) = some b := idOfCode_id b (by decide)
  refine ⟨fun hno => exec_declined (rule := bufferRetryRule) rfl h rfl (.inl hr) ?_, ?_⟩
  · simp only [bufferRetryRule, byteAt, List.getD_cons_zero, hid, beginTaking_buffer]
    split
    next => rfl
    next x hx =>
      rw [if_neg]
      rw [Bool.and_eq_true, beginTaking_channel]
      rintro ⟨hheld, hon⟩
      rw [hno x hx hheld] at hon
      cases hon
  · intro x list hl hx hheld hon newer hlist t
    have hsealed : (s.beginTaking p).sealListWith b x = list := by
      have hwith : (s.beginTaking p).sealListWith b x = s.sealListWith b x := by cases p <;> rfl
      rw [hwith]
      rcases hlist with ⟨hnone, rfl⟩ | ⟨m, before, after, hm, hone, hsplit, rfl⟩
      · exact sealListWith_tail hl hx hnone
      · exact sealListWith_before hl hx hm hone hsplit
    have ht : (s.beginTaking p).retryBuffer b x = t := by rw [State.retryBuffer, hsealed]
    obtain ⟨y, hy, honward⟩ := (onward_tryEnqueue { (s.beginTaking p).setBuffer b (some { x with phase := .sealed, attempts := 0 })
      with sealList := list } x.channel).live b { x with phase := .sealed, attempts := 0 } (State.setBuffer_buffer_self ..)
    refine exec_answered (rule := bufferRetryRule) rfl h rfl (.inl hr) ?_
    have hcheck : (x.isHeld && ((s.beginTaking p).channel x.channel).state.online) = true := by
      rw [beginTaking_channel, hheld, hon]
      rfl
    simp only [bufferRetryRule, byteAt, List.getD_cons_zero, hid, beginTaking_buffer, hx, hcheck, if_true, ht, answerOk,
      bytesOf_one]
    rw [retried_code hy (honward.committing rfl)]

end Sys2Proof.Machine

/-! ### Moves and seals while the pool is calm, and the end of a grant (R31, R36, R37, R117) -/

namespace Sys2Proof.Machine

/-- The buffer after its move to a channel in that state: an IDLE channel starts it at once (R37, R75). -/
def Buffer.moved (x : Buffer) (state : ChannelState) : Buffer :=
  if state = .idle then { x with phase := .programming, attempts := 1 } else { x with phase := .queued, attempts := 0 }

/-- What the seals rely on: an IDLE channel has nothing queued, and the buffers on the seal list are SEALED. -/
structure Calm (s : State) : Prop where
  idle : ∀ c, (s.channel c).state = .idle → (s.channel c).queue = []
  listed : ∀ b ∈ s.sealList, s.bufferHas b Buffer.isSealed = true

theorem calm_of_laws {s : State} (hc : s.channelsLawful) (hl : s.listsLawful) : Calm s := by
  obtain ⟨-, -, -, hlisted⟩ := hl
  refine ⟨fun c => ?_, fun b hb => (hlisted b).mp hb⟩
  cases c
  · exact queue_eq_nil_of_idle hc.1
  · exact queue_eq_nil_of_idle hc.2

section Calm
variable {s t : State} {c : ChannelId} {b : BufferId} {x : Buffer}

/-- A move on a channel that has nothing queued while it is IDLE. -/
theorem moveToQueue_calm (hq : (s.channel c).state = .idle → (s.channel c).queue = []) :
    s.moveToQueue c b x
      = { (s.setBuffer b (some (x.moved (s.channel c).state))).setChannel c
          ((s.channel c).withOp (.program x.page b) (.program x.page x.staged) s.params.opTimeout) with
        sealList := s.sealList.filter (· ≠ b) } := by
  have hx : (s.takenOff b x).buffer b = some { x with phase := .queued, attempts := 0 } := State.setBuffer_buffer_self ..
  have hrequest : (s.takenOff b x).requestOf (.program x.page b) = .program x.page x.staged := by
    rw [requestOf_program hx]
  rw [moveToQueue_eq]
  by_cases hi : (s.channel c).state = .idle
  · have hbuffer (ch : Channel) : ((s.takenOff b x).setChannel c ch).buffer b = some { x with phase := .queued, attempts := 0 } := by
      rw [State.setChannel_buffer, hx]
    rw [appendOp_idle (by rwa [takenOff_channel]) (by rw [takenOff_channel]; exact hq hi),
      attemptStarted_program (op := ⟨.program x.page b, 1⟩) rfl (hbuffer _), hrequest, takenOff_channel, Buffer.moved, if_pos hi,
      State.takenOff, setChannel_setBuffer]
    cases c <;> simp [State.setBuffer, State.setChannel]
  · rw [appendOp_waits (by rwa [takenOff_channel]), hrequest, takenOff_channel, Buffer.moved, if_neg hi]
    cases c <;> rfl

theorem moved_onward (x : Buffer) (state : ChannelState) : x.Onward (x.moved state) := by
  unfold Buffer.moved
  split
  next => exact .inr ⟨1, .inr rfl⟩
  next => exact .inr ⟨0, .inl rfl⟩

theorem withOp_state (ch : Channel) (k : OpKind) (request : StoreRequest) (n : Nat) :
    (ch.withOp k request n).state = if ch.state = .idle then .busy else ch.state := by
  unfold Channel.withOp
  split <;> rfl

theorem withOp_online (ch : Channel) (k : OpKind) (request : StoreRequest) (n : Nat) :
    (ch.withOp k request n).state.online = ch.state.online := by
  rw [withOp_state]
  split
  next h => rw [h]; rfl
  next => rfl

theorem calm_moveToQueue (hs : Calm s) (c : ChannelId) (b : BufferId) (x : Buffer) : Calm (s.moveToQueue c b x) := by
  rw [moveToQueue_calm (hs.idle c)]
  refine ⟨fun c' => ?_, fun b' hb' => ?_⟩
  · change (((s.setBuffer b _).setChannel c _).channel c').state = .idle → (((s.setBuffer b _).setChannel c _).channel c').queue = []
    rw [State.setChannel_channel]
    split
    next =>
      rw [withOp_state]
      split
      next => exact fun h => by cases h
      next h => exact fun h' => absurd h' h
    next => exact hs.idle c'
  · obtain ⟨hmem, hne⟩ := List.mem_filter.mp hb'
    have hlisted := hs.listed b' hmem
    change ((s.setBuffer b _).setChannel c _).bufferHas b' _ = true
    simp only [State.bufferHas, State.setChannel_buffer, State.setBuffer_buffer]
    rw [if_neg (by simpa using hne)]
    exact hlisted

/-- A run of moves touches the listed buffers alone, and leaves every channel as online as it was. -/
theorem Moves.calm (h : Moves c s t) (hs : Calm s) :
    Calm t ∧ (∀ b, b ∉ s.sealList → t.buffer b = s.buffer b)
      ∧ ∀ c', (t.channel c').state.online = (s.channel c').state.online := by
  induction h with
  | stuck s => exact ⟨hs, fun _ _ => rfl, fun _ => rfl⟩
  | @move s t b x hm _ ih =>
    obtain ⟨hcalm, hbuffers, honline⟩ := ih (calm_moveToQueue hs c b x)
    obtain ⟨hmem, -⟩ := movable_mem hm
    refine ⟨hcalm, fun b' hb' => ?_, fun c' => (honline c').trans ?_⟩
    · have hne : b' ≠ b := fun h => hb' (h ▸ hmem)
      rw [hbuffers b' (by rw [moveToQueue_sealList]; exact fun h => hb' (List.mem_filter.mp h).1), moveToQueue_calm (hs.idle c)]
      change ((s.setBuffer b _).setChannel c _).buffer b' = _
      rw [State.setChannel_buffer, State.setBuffer_buffer, if_neg hne]
    · rw [moveToQueue_calm (hs.idle c)]
      change (((s.setBuffer b _).setChannel c _).channel c').state.online = _
      rw [State.setChannel_channel]
      split
      next h => rw [withOp_online, h]
      next => rfl

end Calm

/-- The fields of a buffer that a seal leaves. -/
def Buffer.SameData (x y : Buffer) : Prop := y = { x with phase := y.phase, attempts := y.attempts }

/-- What the seals of bs do to a live buffer b: an OPEN one of bs is on its way, or HELD where its channel is not online; any other
OPEN one and a HELD one stay, and one on its way stays on its way. -/
structure SealedAs (online : ChannelId → Bool) (bs : List BufferId) (b : BufferId) (x y : Buffer) : Prop where
  data : x.SameData y
  other : x.isOpen = true → b ∉ bs → y = x
  onWay : x.isOpen = true → b ∈ bs → online x.channel = true → y.phase.committing = true
  held : x.isOpen = true → b ∈ bs → online x.channel = false → y.phase = .held .channelOffline
  committing : x.phase.committing = true → y.phase.committing = true
  stays : x.isHeld = true → y = x

/-- What the seals of bs do to the pool. -/
structure Seals (bs : List BufferId) (s t : State) : Prop where
  calm : Calm t
  online : ∀ c, (t.channel c).state.online = (s.channel c).state.online
  free : ∀ b, s.buffer b = none → t.buffer b = none
  live : ∀ b x, s.buffer b = some x → ∃ y, t.buffer b = some y ∧ SealedAs (fun c => (s.channel c).state.online) bs b x y

section Seals
variable {s t u : State} {a b : BufferId} {bs : List BufferId} {x y z : Buffer}

theorem isHeld_eq_of_phase {cause : HoldCause} (h : x.phase = .held cause) : x.isHeld = true := (isHeld_iff x).mpr ⟨cause, h⟩

theorem not_open_of_committing (h : x.phase.committing = true) : x.isOpen = false := by
  obtain ⟨_, _, _, _, _, _, phase, _⟩ := x
  cases phase with
  | opened => cases h
  | _ => rfl

theorem sealedAs_same {online : ChannelId → Bool} (h : x.isOpen = true → b ∉ bs) : SealedAs online bs b x x where
  data := rfl
  other := fun _ _ => rfl
  onWay := fun ho hb => absurd hb (h ho)
  held := fun ho hb => absurd hb (h ho)
  committing := fun h => h
  stays := fun _ => rfl

theorem SealedAs.trans {online : ChannelId → Bool} (h : SealedAs online [a] b x y) (k : SealedAs online bs b y z) :
    SealedAs online (a :: bs) b x z := by
  have hchannel : y.channel = x.channel := by rw [h.data]
  refine ⟨?_, fun ho hb => ?_, fun ho hb hon => ?_, fun ho hb hon => ?_, fun hc => k.committing (h.committing hc), fun hh => ?_⟩
  · have hz := k.data
    rw [h.data] at hz
    exact hz
  · have hy := h.other ho (by simpa using fun hab : b = a => hb (hab ▸ List.mem_cons_self ..))
    rw [hy] at k
    exact k.other ho fun hmem => hb (List.mem_cons_of_mem _ hmem)
  · by_cases hab : b = a
    · exact k.committing (h.onWay ho (by simp [hab]) hon)
    · have hy := h.other ho (by simpa using hab)
      rw [hy] at k
      exact k.onWay ho ((List.mem_cons.mp hb).resolve_left hab) hon
  · by_cases hab : b = a
    · have hheld := h.held ho (by simp [hab]) hon
      rw [k.stays (isHeld_eq_of_phase hheld), hheld]
    · have hy := h.other ho (by simpa using hab)
      rw [hy] at k
      exact k.held ho ((List.mem_cons.mp hb).resolve_left hab) hon
  · have hy := h.stays hh
    rw [hy] at k
    exact k.stays hh

theorem Seals.trans (h : Seals [a] s t) (k : Seals bs t u) : Seals (a :: bs) s u := by
  refine ⟨k.calm, fun c => (k.online c).trans (h.online c), fun b hb => k.free b (h.free b hb), fun b x hx => ?_⟩
  obtain ⟨y, hy, hxy⟩ := h.live b x hx
  obtain ⟨z, hz, hyz⟩ := k.live b y hy
  simp only [h.online] at hyz
  exact ⟨z, hz, hxy.trans hyz⟩

theorem Buffer.Onward.sameData (h : x.Onward y) : x.SameData y := by
  rcases h with rfl | ⟨n, rfl | rfl⟩ <;> rfl

/-- A listed buffer, and one that is not the sealed one and keeps its record. -/
theorem sealedAs_onward {online : ChannelId → Bool} (hb : b ≠ a) (hx : x.isSealed = true) (h : x.Onward y) :
    SealedAs online [a] b x y where
  data := h.sameData
  other := fun ho => by rw [not_open_of_committing (by rw [(isSealed_iff x).mp hx]; rfl)] at ho; cases ho
  onWay := fun _ hmem => absurd (List.mem_singleton.mp hmem) hb
  held := fun _ hmem => absurd (List.mem_singleton.mp hmem) hb
  committing := h.committing
  stays := fun hh => by
    obtain ⟨cause, hc⟩ := (isHeld_iff x).mp hh
    rw [(isSealed_iff x).mp hx] at hc
    cases hc

theorem calm_listSealed (hs : Calm s) (a : BufferId) (x : Buffer) : Calm (s.listSealed a x) := by
  refine ⟨fun c => ?_, fun b hb => ?_⟩
  · cases c
    · exact hs.idle .sc0
    · exact hs.idle .sc1
  · change (s.setBuffer a _).bufferHas b _ = true
    simp only [State.bufferHas, State.setBuffer_buffer]
    by_cases hba : b = a
    · rw [if_pos hba]
      rfl
    · rw [if_neg hba]
      have hmem : b ∈ s.sealList := by simpa [State.listSealed, hba] using hb
      exact hs.listed b hmem

theorem not_open_of_held {x : Buffer} (h : x.isHeld = true) : x.isOpen = false := by
  obtain ⟨cause, hc⟩ := (isHeld_iff x).mp h
  simp [Buffer.isOpen, hc]

/-- A seal of an OPEN buffer on an online channel: it is listed, and the listed buffers are moved. -/
theorem seals_online (hs : Calm s) (hx : s.buffer a = some x) (ho : x.isOpen = true)
    (hc : (s.channel x.channel).state.online = true) : Seals [a] s (s.sealBuffer a) := by
  have hbuffer (b : BufferId) : (s.listSealed a x).buffer b = if b = a then some (x.inPhase .sealed) else s.buffer b :=
    State.setBuffer_buffer s a _ b
  have hchannel (c : ChannelId) : (s.listSealed a x).channel c = s.channel c := by cases c <;> rfl
  have hmoves := moves_tryEnqueue (s.listSealed a x) x.channel
  obtain ⟨hcalm, hsame, honline⟩ := hmoves.calm (calm_listSealed hs a x)
  have honward := hmoves.onward
  rw [sealBuffer_online hx ho hc]
  refine ⟨hcalm, fun c => by rw [honline, hchannel], fun b hb => honward.free b ?_, fun b xb hxb => ?_⟩
  · have hba : b ≠ a := by
      rintro rfl
      rw [hx] at hb
      cases hb
    rw [hbuffer, if_neg hba, hb]
  · by_cases hba : b = a
    · subst hba
      cases hx.symm.trans hxb
      obtain ⟨y, hy, hxy⟩ := honward.live b _ ((hbuffer b).trans (if_pos rfl))
      have hcommitting := hxy.committing rfl
      refine ⟨y, hy, hxy.sameData, fun _ hno => absurd (List.mem_singleton_self b) hno, fun _ _ _ => hcommitting,
        fun _ _ hoff => ?_, fun _ => hcommitting, fun hh => ?_⟩
      · rw [hc] at hoff
        cases hoff
      · rw [not_open_of_held hh] at ho
        cases ho
    · have hxb' : (s.listSealed a x).buffer b = some xb := by rw [hbuffer, if_neg hba, hxb]
      obtain ⟨y, hy, hxy⟩ := honward.live b xb hxb'
      by_cases hlisted : b ∈ s.sealList
      · have hsealed := hs.listed b hlisted
        rw [bufferHas_of_some hxb] at hsealed
        exact ⟨y, hy, sealedAs_onward hba hsealed hxy⟩
      · have hnot : b ∉ (s.listSealed a x).sealList := by simp [State.listSealed, hlisted, hba]
        exact ⟨xb, (hsame b hnot).trans hxb', sealedAs_same fun _ => by simpa using hba⟩

/-- A seal of an OPEN buffer elsewhere: it is HELD. -/
theorem seals_offline (hs : Calm s) (hx : s.buffer a = some x) (ho : x.isOpen = true)
    (hc : (s.channel x.channel).state.online = false) : Seals [a] s (s.sealBuffer a) := by
  have hqueues := sameQueues_holdBuffer s a .channelOffline
  rw [sealBuffer_offline hx ho hc]
  refine ⟨⟨fun c => by rw [hqueues.channel]; exact hs.idle c, fun b hb => ?_⟩, fun c => by rw [hqueues.channel],
    fun b hb => by rw [holdBuffer_buffer, hb]; rfl, fun b xb hxb => ?_⟩
  · rw [hqueues.sealList] at hb
    obtain ⟨y, hy, hsealed⟩ := bufferHas_iff.mp (hs.listed b hb)
    have hba : b ≠ a := by
      rintro rfl
      cases hx.symm.trans hy
      rw [not_open_of_committing (by rw [(isSealed_iff x).mp hsealed]; rfl)] at ho
      cases ho
    rw [bufferHas_iff]
    exact ⟨y, by rw [holdBuffer_buffer, hy]; simp [hba], hsealed⟩
  · have hy : (s.holdBuffer a .channelOffline).buffer b = some (if b = a then xb.inPhase (.held .channelOffline) else xb) := by
      rw [holdBuffer_buffer, hxb]
      rfl
    refine ⟨_, hy, ?_⟩
    by_cases hba : b = a
    · subst hba
      cases hx.symm.trans hxb
      rw [if_pos rfl]
      refine ⟨rfl, fun _ hno => absurd (List.mem_singleton_self b) hno, fun _ _ hon => ?_, fun _ _ _ => rfl, fun hcom => ?_,
        fun hh => ?_⟩
      · rw [hc] at hon
        cases hon
      · rw [not_open_of_committing hcom] at ho
        cases ho
      · rw [not_open_of_held hh] at ho
        cases ho
    · rw [if_neg hba]
      exact sealedAs_same fun _ => by simpa using hba

theorem seals_sealBuffer (hs : Calm s) (a : BufferId) : Seals [a] s (s.sealBuffer a) := by
  by_cases ho : s.bufferHas a Buffer.isOpen = true
  · obtain ⟨x, hx, ho⟩ := bufferHas_iff.mp ho
    cases hc : (s.channel x.channel).state.online
    · exact seals_offline hs hx ho hc
    · exact seals_online hs hx ho hc
  · rw [sealBuffer_left (Bool.eq_false_iff.mpr ho)]
    refine ⟨hs, fun _ => rfl, fun _ h => h, fun b x hx => ⟨x, hx, sealedAs_same fun hopen hb => ?_⟩⟩
    obtain rfl := List.mem_singleton.mp hb
    exact ho (by rw [bufferHas_of_some hx, hopen])

theorem seals_sealAllOf (hs : Calm s) (bs : List BufferId) : Seals bs s (s.sealAllOf bs) := by
  unfold State.sealAllOf
  induction bs generalizing s with
  | nil =>
    exact ⟨hs, fun _ => rfl, fun _ h => h, fun b x hx => ⟨x, hx, sealedAs_same fun _ h => by cases h⟩⟩
  | cons a bs ih =>
    have ha := seals_sealBuffer hs a
    exact ha.trans (ih ha.calm)

end Seals

theorem forgetGrant_buffer (s : State) (w : WindowId) (b : BufferId) :
    (s.forgetGrant w).buffer b = (s.buffer b).map fun x => { x with grantWindows := leaveSet x.grantWindows w } := by
  simp [State.forgetGrant, State.buffer]

/-- Settles O26: the seals run on the state without the grant record, and the window leaves every buffer after them. -/
theorem grantEndSealsItsBuffers : Obligations.GrantEndSealsItsBuffers := by
  intro s w under sealed t
  have hbuffer (b : BufferId) : t.buffer b = (sealed.buffer b).map fun x => { x with grantWindows := leaveSet x.grantWindows w } :=
    forgetGrant_buffer sealed w b
  have hwork : WorkOnly (s.setGrant w none) t := workOnly_endGrant s w
  have hgrant (v : WindowId) : t.grantOf v = if v = w then none else s.grantOf v := by
    rw [hwork.inside.grantOf, State.setGrant_grantOf]
  refine ⟨rfl, hbuffer, fun m v => ?_, by rw [hgrant, if_pos rfl], fun v hv => by rw [hgrant, if_neg hv], hwork.log,
    hwork.overflow, fun _ hl hc => ?_⟩
  · rw [inSet_leaveSet]
    simp only [ne_eq, Fin.val_inj, eq_comm]
  have hcalm : Calm (s.setGrant w none) := by
    obtain ⟨hidle, hlisted⟩ := calm_of_laws hc hl
    exact ⟨fun c => by rw [State.setGrant_channel]; exact hidle c, hlisted⟩
  have hseals : Seals under (s.setGrant w none) sealed := seals_sealAllOf hcalm under
  refine ⟨fun b hb => by rw [hbuffer, hseals.free b hb]; rfl, fun b x hx => ?_⟩
  obtain ⟨y, hy, hxy⟩ := hseals.live b x hx
  have hmem (ho : x.isOpen = true) : b ∈ under ↔ inSet x.grantWindows w = true := by
    have hlive : b ∈ s.openOrder := (hl.2.1 b).mpr (by rw [hx]; rfl)
    simp only [under, List.mem_filter, hlive, bufferHas_of_some hx, ho, Bool.true_and, true_and]
  have hdata := hxy.data
  refine ⟨_, by rw [hbuffer, hy]; rfl, by rw [hdata], by rw [hdata], by rw [hdata], by rw [hdata], by rw [hdata], by rw [hdata],
    fun ho hw => ?_, fun ho hw => ⟨fun hon => ?_, fun hoff => ?_⟩⟩
  · rw [hxy.other ho fun hb => by rw [(hmem ho).mp hb] at hw; cases hw]
    exact ⟨rfl, rfl⟩
  · exact hxy.onWay ho ((hmem ho).mpr hw) (by rw [State.setGrant_channel]; exact hon)
  · exact hxy.held ho ((hmem ho).mpr hw) (by rw [State.setGrant_channel]; exact hoff)

end Sys2Proof.Machine

/-! ### Completions and failed attempts (R41, R42, R55, R56, R66, R67, R76 to R82) -/

namespace Sys2Proof.Machine

section Completion
variable {s : State} {c : ChannelId} {op : Op} {rest : List Op}

theorem inProgress_eq_some (hw : (s.channel c).state.working = true) (hq : (s.channel c).queue = op :: rest) :
    (s.channel c).inProgress = some op := by simp [Channel.inProgress, hw, hq]

/-- A completion with the number of the attempt in progress is taken. -/
theorem exec_storeCompletion_taken (hs : s.resetAsserted = false) (hop : (s.channel c).inProgress = some op)
    (status : CompletionStatus) (bytes : List Byte) :
    exec (.storeCompletion c (s.channel c).number status bytes) s
      = .next ((s.takeCompletion c op status bytes).settleRestart.placeNotice) := by
  simp only [exec, execStoreCompletion, event_running hs, hop, if_true]

/-- The state after the head operation has left the queue with success. -/
def State.leftByHead (s : State) (c : ChannelId) : State :=
  s.setChannel c { s.channel c with timer := none, streak := 0, queue := (s.channel c).queue.tail }

theorem headSucceeded_eq (bytes : List Byte) :
    s.headSucceeded c op bytes
      = ((s.leftByHead c).opSucceeded c op.kind (s.channel c).number bytes).afterLeaving c := rfl

theorem exec_storeCompletion_ok (hs : s.resetAsserted = false) (hop : (s.channel c).inProgress = some op) {bytes : List Byte}
    (hfit : op.kind.formFits bytes = true) :
    exec (.storeCompletion c (s.channel c).number .ok bytes) s
      = .next ((((s.leftByHead c).opSucceeded c op.kind (s.channel c).number bytes).afterLeaving c).settleRestart.placeNotice)
      := by
  rw [exec_storeCompletion_taken hs hop, State.takeCompletion, if_pos hfit, headSucceeded_eq]

end Completion

/-! #### The three successes -/

section Success
variable {s : State} {c : ChannelId} {n : BitVec 8} {bytes : List Byte}

theorem assemble_eq {overlay : List (Option Byte)} (h : overlay.length = bytes.length) :
    assemble overlay bytes = (List.range bytes.length).map fun k => (overlay.getD k none).getD (bytes.getD k 0) := by
  apply List.ext_getElem
  · simp [assemble, h]
  · intro k h1 h2
    have hk : k < bytes.length := by simpa using h2
    simp [assemble, hk, h ▸ hk]

theorem awaits_eq {x : Slot} {r : ReadWork} (hp : x.phase = .fetching) (hw : x.work = .read r) (hn : r.number = some n) :
    x.awaits n = some r := by simp [Slot.awaits, hp, hw, hn]

theorem opSucceeded_fetch {pg : BitVec 16} {o m : Nat} {i : SlotId} {x : Slot} {r : ReadWork} (hx : s.slot i = some x)
    (ha : x.awaits n = some r) :
    s.opSucceeded c (.fetch pg o m i) n bytes
      = s.setSlot i (some { x with phase := .ready (assemble r.overlay bytes) s.params.holdTime }) := by
  simp only [State.opSucceeded, State.requestOf, takenAfter, State.setStore_same, State.fetchSucceeded, hx, ha]

theorem opSucceeded_program {pg : BitVec 16} {b : BufferId} {x : Buffer} (hx : s.buffer b = some x) :
    s.opSucceeded c (.program pg b) n bytes
      = (((s.setStore c (layCells (s.store c) (pageStart pg) x.staged)).programSucceeded b).countProgram) := by
  simp only [State.opSucceeded, requestOf_program hx, takenAfter]

theorem opSucceeded_clear {sector : BitVec 12} {q : ReqId} :
    s.opSucceeded c (.clear sector q) n bytes
      = s.setStore c (fillCells (s.store c) (sectorStart sector) 4096 0xFF#8) := rfl

end Success

/-- Settles O47, owner by owner. -/
theorem okCompletionServesTheOwner : Obligations.OkCompletionServesTheOwner := by
  intro s c n bytes op rest hs hw hq hn left answers
  subst hn
  have hop := inProgress_eq_some hw hq
  have hleft : s.leftByHead c = left := by rw [State.leftByHead, hq]; rfl
  have hanswers (hfit : op.kind.formFits bytes = true) {u : State}
      (hu : left.opSucceeded c op.kind (s.channel c).number bytes = u) : answers u := by
    have hexec := exec_storeCompletion_ok hs hop hfit
    rw [hleft, hu] at hexec
    exact hexec
  have hstore : left.store c = s.store c := State.setChannel_store ..
  refine ⟨fun pg o i x r hk hx hp hwork hnumber hlen => ?_, fun pg b x hk hb hx => ?_, fun sector q hk hb => ?_⟩
  · have hslot : left.slot i = some x := (State.setChannel_slot ..).trans hx
    refine hanswers (by simp [hk, OpKind.formFits]) ?_
    rw [hk, opSucceeded_fetch hslot (awaits_eq hp hwork hnumber), assemble_eq hlen, State.setChannel_params]
  · have hbuffer : left.buffer b = some x := (State.setChannel_buffer ..).trans hx
    refine ⟨_, hanswers (by simp [hk, hb, OpKind.formFits]) (by rw [hk, opSucceeded_program hbuffer]), ?_, fun hwf a => ?_, ?_⟩
    · cases c <;> rfl
    · have hu : (((left.setStore c (layCells (left.store c) (pageStart pg) x.staged)).programSucceeded b).countProgram).store c
          = layCells (left.store c) (pageStart pg) x.staged := by cases c <;> rfl
      rw [hu, hstore, cellAt_layCells _ _ _ hwf, pageStart]
      split <;> simp
    · cases c <;> rfl
  · refine ⟨_, hanswers (by simp [hk, hb, OpKind.formFits]) (by rw [hk, opSucceeded_clear]), fun hwf a => ?_, ?_⟩
    · rw [State.setStore_store_self, cellAt_fillCells, hstore]
      rfl
    · rw [State.setStore_store_self]

/-! #### Failed attempts (R80, R81) -/

section Failure
variable {s : State} {c : ChannelId} {op : Op}

/-- The head operation has left the queue of the channel. -/
def State.withoutHead (s : State) (c : ChannelId) : State :=
  s.setChannel c { s.channel c with queue := (s.channel c).queue.tail }

theorem headFailedFinally_eq : s.headFailedFinally c op = (s.withoutHead c).opFailed c op.kind (s.channel c).number := rfl

theorem failedAttempt_streak (h : s.params.offlineStreak ≤ (s.channel c).streak + 1) :
    s.failedAttempt c op = ((s.noteFailure c).headFailedFinally c op).offlineEntry c .streak := if_pos h

theorem failedAttempt_retried (h : (s.channel c).streak + 1 < s.params.offlineStreak) (hr : s.restart = none)
    (ha : op.attempts ≤ s.params.retryLimit) : s.failedAttempt c op = (s.noteFailure c).startHead c := by
  have hp : s.restartPending = false := by simp [State.restartPending, hr]
  simp only [State.failedAttempt, if_neg (Nat.not_le.mpr h), hp, Bool.false_eq_true, if_false, if_pos ha]

theorem failedAttempt_final (h : (s.channel c).streak + 1 < s.params.offlineStreak)
    (hf : s.restart ≠ none ∨ s.params.retryLimit < op.attempts) :
    s.failedAttempt c op = ((s.noteFailure c).headFailedFinally c op).afterLeaving c := by
  simp only [State.failedAttempt, if_neg (Nat.not_le.mpr h)]
  split
  next => rfl
  next hp =>
    have hr : s.restart = none := by simpa [State.restartPending] using hp
    rcases hf with hf | hf
    · exact absurd hr hf
    · exact if_neg (Nat.not_le.mpr hf)

theorem opFailed_clear {sector : BitVec 12} {q : ReqId} (n : BitVec 8) :
    s.opFailed c (.clear sector q) n = s.append (.clearFailed c q sector .storeFailed) := rfl

theorem opFailed_fetch {pg : BitVec 16} {o m : Nat} {i : SlotId} {x : Slot} {r : ReadWork} {n : BitVec 8}
    (hx : s.slot i = some x) (ha : x.awaits n = some r) :
    s.opFailed c (.fetch pg o m i) n
      = (s.setSlot i (some { x with phase := .failed .storeFailed s.params.holdTime })).append (.fetchFailed c x.requester r.page i)
      := by
  simp only [State.opFailed, State.fetchFailed, hx, ha]

theorem opFailed_program {pg : BitVec 16} {b : BufferId} {x : Buffer} (hx : s.buffer b = some x) (n : BitVec 8) :
    s.opFailed c (.program pg b) n
      = { s.setBuffer b (some (x.inPhase (.held .programFailed))) with
          slots := failWaiting b .storeFailed s.params.holdTime s.slots }.append (.programHeld c pg b) := by
  simp only [State.opFailed, State.programFailed, holdBuffer_eq hx]
  rfl

/-- A command that fails the attempt in progress, with the state the failure is found in: FAIL, an OK that does not fit, or the
timer, whose time left passes first and which is counted. -/
def FailsAttempt (s u : State) (i : Instr) (c : ChannelId) (op : Op) (left : Micros) : Prop :=
  (u = s ∧ ((∃ bytes, i = .storeCompletion c (s.channel c).number .fail bytes)
      ∨ ∃ bytes, i = .storeCompletion c (s.channel c).number .ok bytes
        ∧ ((∃ pg o n slot, op.kind = .fetch pg o n slot ∧ bytes.length ≠ n)
          ∨ (∀ pg o n slot, op.kind ≠ .fetch pg o n slot) ∧ bytes ≠ []))
    ∨ i = .operationTimerExpiry c
      ∧ u = (s.elapse left).setCounters { s.counters with timeouts := bump s.counters.timeouts })

theorem formFits_eq_false {k : OpKind} {bytes : List Byte} (h : (∃ pg o n slot, k = .fetch pg o n slot ∧ bytes.length ≠ n)
    ∨ (∀ pg o n slot, k ≠ .fetch pg o n slot) ∧ bytes ≠ []) : k.formFits bytes = false := by
  cases k with
  | fetch pg o n slot =>
    rcases h with ⟨_, _, _, _, hk, hn⟩ | ⟨hk, -⟩
    · cases hk
      simpa [OpKind.formFits] using hn
    · exact absurd rfl (hk pg o n slot)
  | program | clear =>
    rcases h with ⟨_, _, _, _, hk, -⟩ | ⟨-, hb⟩
    · cases hk
    · simpa [OpKind.formFits] using hb

/-- Each of them runs the rule of a failed attempt. -/
theorem exec_failed {u : State} {i : Instr} {left : Micros} (hs : s.resetAsserted = false)
    (hop : (s.channel c).inProgress = some op) (ht : (s.channel c).timer = some left) (hi : FailsAttempt s u i c op left) :
    exec i s = .next ((u.failedAttempt c op).settleRestart.placeNotice) := by
  rcases hi with ⟨rfl, ⟨bytes, rfl⟩ | ⟨bytes, rfl, hform⟩⟩ | ⟨rfl, rfl⟩
  · exact exec_storeCompletion_taken hs hop .fail bytes
  · rw [exec_storeCompletion_taken hs hop, State.takeCompletion, formFits_eq_false hform]
    rfl
  · simp only [exec, execOperationTimerExpiry, event_running hs, ht, hop]
    rfl

/-- What the time of an expiry leaves: the records the failure is about. -/
structure FailureRecords (s u : State) (c : ChannelId) : Prop where
  streak : (u.channel c).streak = (s.channel c).streak
  queue : (u.channel c).queue = (s.channel c).queue
  number : (u.channel c).number = (s.channel c).number
  params : u.params = s.params
  restart : u.restart = s.restart
  attemptsFailed : u.counters.attemptsFailed = s.counters.attemptsFailed
  slot : ∀ i x, s.slot i = some x → x.phase = .fetching → u.slot i = some x

theorem failureRecords {u : State} {i : Instr} {left : Micros} (hi : FailsAttempt s u i c op left) : FailureRecords s u c := by
  rcases hi with ⟨rfl, -⟩ | ⟨-, rfl⟩
  · exact ⟨rfl, rfl, rfl, rfl, rfl, rfl, fun _ _ h _ => h⟩
  · have hchannel := elapse_channel s left c
    refine ⟨?_, ?_, ?_, rfl, rfl, rfl, fun i x hx hp => ?_⟩
    · rw [State.setCounters_channel, hchannel]; rfl
    · rw [State.setCounters_channel, hchannel]; rfl
    · rw [State.setCounters_channel, hchannel]; rfl
    · obtain ⟨ticket, requester, work, phase⟩ := x
      cases hp
      rw [State.setCounters_slot, elapse_slot, hx]
      rfl

end Failure

/-- Settles O48: the rule of a failed attempt on the state the failure is found in, owner by owner. -/
theorem failedAttemptTakesTheFirstCase : Obligations.FailedAttemptTakesTheFirstCase := by
  intro s u i c op rest left hs hw hq ht hi noted shorter answers final
  have hop := inProgress_eq_some hw hq
  have hexec : exec i s = .next ((u.failedAttempt c op).settleRestart.placeNotice) := exec_failed hs hop ht hi
  have hrecords : FailureRecords s u c := failureRecords hi
  have hnoted : u.noteFailure c = noted := by
    rw [State.noteFailure, State.countFailedAttempt, State.setChannel_counters, hrecords.streak, hrecords.attemptsFailed]
  have hnumber : (noted.channel c).number = (s.channel c).number := by
    rw [State.setCounters_channel, State.setChannel_channel_self]
    exact hrecords.number
  have hshorter : noted.withoutHead c = shorter := by
    have hqueue : (noted.channel c).queue = op :: rest := by
      rw [State.setCounters_channel, State.setChannel_channel_self]
      exact hrecords.queue.trans hq
    rw [State.withoutHead, hqueue]
    rfl
  have hfinal {t : State} (hfailed : shorter.opFailed c op.kind (s.channel c).number = t) : final t := by
    have hhead : (u.noteFailure c).headFailedFinally c op = t := by
      rw [hnoted, headFailedFinally_eq, hshorter, hnumber, hfailed]
    refine ⟨fun hstreak => ?_, fun hstreak hlast => ?_⟩
    · have hcase : u.failedAttempt c op = _ := failedAttempt_streak (by rwa [hrecords.streak, hrecords.params])
      rw [hcase, hhead] at hexec
      exact hexec
    · have hcase : u.failedAttempt c op = _ :=
        failedAttempt_final (by rwa [hrecords.streak, hrecords.params]) (by rwa [hrecords.restart, hrecords.params])
      rw [hcase, hhead] at hexec
      exact hexec
  have hholdTime : shorter.params.holdTime = s.params.holdTime := by
    rw [State.setChannel_params, State.setCounters_params, State.setChannel_params, hrecords.params]
  refine ⟨fun hstreak hr ha => ?_, fun sector q hk => ?_, fun pg o n slot x r hk hx hp hwork hn => ?_, fun pg b x hk hx => ?_⟩
  · have hcase : u.failedAttempt c op = _ := failedAttempt_retried (by rwa [hrecords.streak, hrecords.params])
      (by rwa [hrecords.restart]) (by rwa [hrecords.params])
    rw [hcase, hnoted] at hexec
    exact hexec
  · exact hfinal (by rw [hk, opFailed_clear])
  · have hslot : shorter.slot slot = some x := by
      rw [State.setChannel_slot, State.setCounters_slot, State.setChannel_slot]
      exact hrecords.slot slot x hx hp
    exact hfinal (by rw [hk, opFailed_fetch hslot (awaits_eq hp hwork hn), hholdTime])
  · have hbuffer : shorter.buffer b = some x := by
      rw [State.setChannel_buffer, State.setCounters_buffer, State.setChannel_buffer, hx]
    have hslots : shorter.slots = u.slots := by
      rw [State.setChannel_slots, State.setCounters_slots, State.setChannel_slots]
    exact hfinal (by rw [hk, opFailed_program hbuffer, hholdTime, hslots])

end Sys2Proof.Machine

/-! ### The laws of pool, slots, queues and channels in the form their proofs use (R24 to R26, R35, R37, R43, R47 to R51, R65, R72 to
R75, R92, R96)

`Core` is the conjunction of those laws, with a gap: in the middle of an event one channel may stand without an operation in progress,
its head already gone or about to be started again. `Core none` is the laws themselves. -/

namespace Sys2Proof.Machine

/-! #### Pool -/

/-- QUEUED or PROGRAMMING. -/
def Buffer.onWay (x : Buffer) : Bool := x.phase == .queued || x.phase == .programming

/-- a stands before b in the order of openings: on one page, a is not OPEN and b is not yet on its way (R26, R37). -/
def State.InOrder (s : State) (a b : BufferId) : Prop :=
  ∀ x y, s.buffer a = some x → s.buffer b = some y → y.channel = x.channel → y.page = x.page →
    x.isOpen = false ∧ y.onWay = false

/-- The laws of buffers and of the lists of the pool. -/
structure PoolLaw (s : State) : Prop where
  ranges : ∀ b x, s.buffer b = some x → x.inRanges = true ∧ cellsWf x.staged
  lists : s.listsLawful
  order : s.openOrder.Pairwise s.InOrder
  room : ∀ c pg, (s.liveOn c pg).length ≤ 2
  holds : ∀ b x, s.buffer b = some x → s.channelFits x = true

section PoolLaw
variable {s : State} {b : BufferId} {x : Buffer}

theorem onWay_iff (x : Buffer) : x.onWay = true ↔ x.phase = .queued ∨ x.phase = .programming := by
  simp [Buffer.onWay]

theorem onWay_eq_false_of_open (h : x.isOpen = true) : x.onWay = false := by
  obtain ⟨idle, limit, hp⟩ := (isOpen_iff x).mp h
  simp [Buffer.onWay, hp]

theorem all_buffer_iff {test : Buffer → Bool} :
    (∀ b : BufferId, ((s.buffer b).all test) = true) ↔ ∀ b x, s.buffer b = some x → test x = true := by
  refine forall_congr' fun b => ?_
  cases s.buffer b with
  | none => simp
  | some x => simp

/-- Two elements in their order are not the last and the first. -/
theorem mem_dropLast_of_pair {α : Type} {a b : α} {l : List α} (h : [a, b].Sublist l) : a ∈ l.dropLast := by
  induction l with
  | nil => cases h
  | cons c l ih =>
    cases h with
    | cons _ h' =>
      have hne : l ≠ [] := by rintro rfl; cases h'
      rw [List.dropLast_cons_of_ne_nil hne]
      exact List.mem_cons_of_mem _ (ih h')
    | cons_cons _ h' =>
      have hne : l ≠ [] := by rintro rfl; cases h'
      rw [List.dropLast_cons_of_ne_nil hne]
      exact List.mem_cons_self ..

theorem head?_ne_of_pair {α : Type} {a b : α} {l : List α} (hn : l.Nodup) (h : [a, b].Sublist l) : l.head? ≠ some b := by
  cases l with
  | nil => simp
  | cons c l =>
    intro hc
    obtain rfl : c = b := by simpa using hc
    have hb : c ∉ l := (List.nodup_cons.mp hn).1
    cases h with
    | cons _ h' => exact hb (h'.subset (by simp))
    | cons_cons _ h' => exact hb (h'.subset (by simp))

/-- Two live buffers of a page in the order of openings are in that order among those of the page. -/
theorem pair_liveOn {a b : BufferId} {y : Buffer} (h : [a, b].Sublist s.openOrder) (hx : s.buffer a = some x)
    (hy : s.buffer b = some y) (hc : y.channel = x.channel) (hp : y.page = x.page) :
    [a, b].Sublist (s.liveOn x.channel x.page) := by
  have hfilter := h.filter fun b => s.bufferHas b (Buffer.isOn x.channel x.page)
  have ha : s.bufferHas a (Buffer.isOn x.channel x.page) = true := by
    rw [bufferHas_of_some hx]
    exact (isOn_iff ..).mpr ⟨rfl, rfl⟩
  have hb : s.bufferHas b (Buffer.isOn x.channel x.page) = true := by
    rw [bufferHas_of_some hy]
    exact (isOn_iff ..).mpr ⟨hc, hp⟩
  have hkeep : [a, b].filter (fun b => s.bufferHas b (Buffer.isOn x.channel x.page)) = [a, b] := by
    simp [ha, hb]
  exact hkeep ▸ hfilter

theorem nodup_liveOn (h : s.openOrder.Nodup) (c : ChannelId) (pg : BitVec 16) : (s.liveOn c pg).Nodup := h.filter _

/-- The two laws of a page are the order and the room of the pool. -/
theorem order_of_laws (hn : s.openOrder.Nodup) (ho : s.occupancyLawful) (hp : s.pageOrderLawful) :
    s.openOrder.Pairwise s.InOrder := by
  rw [List.pairwise_iff_forall_sublist]
  intro a b hab x y hx hy hc hpg
  have hpair := pair_liveOn hab hx hy hc hpg
  constructor
  · have hfits := all_buffer_iff.mp ho a x hx
    simp only [State.pageFits, Bool.and_eq_true, List.all_eq_true] at hfits
    have hopen := hfits.2 a (mem_dropLast_of_pair hpair)
    rw [bufferHas_of_some hx] at hopen
    simpa using hopen
  · have hold := hp b
    rw [hy, Option.all_some, State.oldestOfPage] at hold
    rw [Bool.eq_false_iff, ne_eq, onWay_iff]
    rintro (hq | hq) <;>
    · rw [hq, beq_iff_eq, hc, hpg] at hold
      exact head?_ne_of_pair (nodup_liveOn hn _ _) hpair hold

theorem mem_liveOn_self (hl : s.listsLawful) (hx : s.buffer b = some x) : b ∈ s.liveOn x.channel x.page := by
  obtain ⟨-, hlive, -⟩ := hl
  exact mem_liveOn.mpr ⟨(hlive b).mpr (by rw [hx]; rfl), x, hx, rfl, rfl⟩

theorem room_of_laws (ho : s.occupancyLawful) (c : ChannelId) (pg : BitVec 16) : (s.liveOn c pg).length ≤ 2 := by
  by_cases hempty : s.liveOn c pg = []
  · rw [hempty]; exact Nat.zero_le _
  · obtain ⟨b, hb⟩ := List.exists_mem_of_ne_nil _ hempty
    obtain ⟨-, x, hx, rfl, rfl⟩ := mem_liveOn.mp hb
    have hfits := all_buffer_iff.mp ho b x hx
    simp only [State.pageFits, Bool.and_eq_true, decide_eq_true_eq] at hfits
    exact hfits.1

theorem poolLaw_of_laws (hb : s.buffersLawful) (hl : s.listsLawful) (ho : s.occupancyLawful) (hp : s.pageOrderLawful)
    (hh : s.holdsLawful) : PoolLaw s where
  ranges := fun b x hx => by simpa using all_buffer_iff.mp hb b x hx
  lists := hl
  order := order_of_laws hl.1 ho hp
  room := room_of_laws ho
  holds := all_buffer_iff.mp hh

theorem PoolLaw.buffersLawful (h : PoolLaw s) : s.buffersLawful := all_buffer_iff.mpr fun b x hx => by simpa using h.ranges b x hx

theorem PoolLaw.holdsLawful (h : PoolLaw s) : s.holdsLawful := all_buffer_iff.mpr h.holds

theorem PoolLaw.pair {a b : BufferId} (h : PoolLaw s) {c : ChannelId} {pg : BitVec 16} (hab : [a, b].Sublist (s.liveOn c pg)) :
    s.InOrder a b := List.pairwise_iff_forall_sublist.mp h.order (hab.trans List.filter_sublist)

theorem PoolLaw.occupancyLawful (h : PoolLaw s) : s.occupancyLawful := by
  refine all_buffer_iff.mpr fun b x hx => ?_
  simp only [State.pageFits, Bool.and_eq_true, decide_eq_true_eq, List.all_eq_true]
  refine ⟨h.room _ _, fun a ha => ?_⟩
  have hne : s.liveOn x.channel x.page ≠ [] := List.ne_nil_of_mem (List.dropLast_subset _ ha)
  have hlast := List.dropLast_append_getLast hne
  have hpair : [a, (s.liveOn x.channel x.page).getLast hne].Sublist (s.liveOn x.channel x.page) := by
    conv_rhs => rw [← hlast]
    exact (List.singleton_sublist.mpr ha).append (List.Sublist.refl [_])
  obtain ⟨-, y, hy, hyc, hyp⟩ := mem_liveOn.mp (List.dropLast_subset _ ha)
  obtain ⟨-, z, hz, hzc, hzp⟩ := mem_liveOn.mp (List.getLast_mem hne)
  rw [bufferHas_of_some hy, ((h.pair hpair) y z hy hz (hzc.trans hyc.symm) (hzp.trans hyp.symm)).1]
  rfl

/-- A buffer on its way is the oldest of its page (R37). -/
theorem PoolLaw.head?_liveOn (h : PoolLaw s) (hx : s.buffer b = some x) (hw : x.onWay = true) :
    (s.liveOn x.channel x.page).head? = some b := by
  have hmem := mem_liveOn_self h.lists hx
  cases hl : s.liveOn x.channel x.page with
  | nil => rw [hl] at hmem; cases hmem
  | cons a rest =>
    rw [hl] at hmem
    rcases List.mem_cons.mp hmem with rfl | hrest
    · rfl
    · have hpair : [a, b].Sublist (s.liveOn x.channel x.page) := by
        rw [hl]
        exact List.cons_sublist_cons.mpr (List.singleton_sublist.mpr hrest)
      have ha : a ∈ s.liveOn x.channel x.page := by rw [hl]; exact List.mem_cons_self ..
      obtain ⟨-, y, hy, hyc, hyp⟩ := mem_liveOn.mp ha
      rw [((h.pair hpair) y x hy hx hyc.symm hyp.symm).2] at hw
      cases hw

theorem PoolLaw.pageOrderLawful (h : PoolLaw s) : s.pageOrderLawful := by
  intro b
  cases hx : s.buffer b with
  | none => rfl
  | some x =>
    rw [Option.all_some, State.oldestOfPage]
    split
    next hq => rw [h.head?_liveOn hx ((onWay_iff x).mpr (.inl hq))]; exact beq_self_eq_true _
    next hq => rw [h.head?_liveOn hx ((onWay_iff x).mpr (.inr hq))]; exact beq_self_eq_true _
    all_goals rfl

end PoolLaw

end Sys2Proof.Machine

/-! #### Slots, queues and channels -/

namespace Sys2Proof.Machine

/-! ##### Slots -/

/-- The buffer is on its way to the store with data of the requester. -/
def State.Coming (s : State) (b : BufferId) (q : ReqId) : Prop :=
  ∃ y, s.buffer b = some y ∧ y.phase.committing = true ∧ inSet y.writers q.toNat = true

/-- The slots are in their ranges, and a waiting SYNC slot waits on good buffers alone. -/
def Waits (good : BufferId → ReqId → Prop) (slot : SlotId → Option Slot) : Prop :=
  ∀ i x, slot i = some x → x.inRanges = true
    ∧ ∀ m, x.work = .sync m → x.phase = .fetching → ∀ b : BufferId, inSet m b = true → good b x.requester

/-- The law of the slots. -/
abbrev SlotLaw (s : State) : Prop := Waits s.Coming s.slot

section SlotLaw
variable {s : State}

theorem waitFits_iff (x : Slot) :
    s.waitFits x = true
      ↔ ∀ m, x.work = .sync m → x.phase = .fetching → ∀ b : BufferId, inSet m b = true → s.Coming b x.requester := by
  unfold State.waitFits
  split
  next m hw hp =>
    simp only [List.all_eq_true, List.mem_finRange, true_imp_iff, Bool.or_eq_true, Bool.not_eq_true', bufferHas_iff,
      Bool.and_eq_true, Buffer.writtenBy]
    constructor
    · rintro h m' hm' - b hb
      cases hw.symm.trans hm'
      exact (h b).resolve_left (by rw [hb]; decide)
    · intro h b
      cases hb : inSet m b
      · exact .inl rfl
      · exact .inr (h m hw hp b hb)
  next hno => exact ⟨fun _ m hw hp => absurd hp (fun hp => hno m hw hp), fun _ => rfl⟩

theorem slotsLawful_iff : s.slotsLawful ↔ SlotLaw s := by
  refine forall_congr' fun i => ?_
  cases s.slot i with
  | none => simp
  | some x => simp [waitFits_iff]

theorem Waits.mono {good good' : BufferId → ReqId → Prop} {slot : SlotId → Option Slot} (h : Waits good slot)
    (hg : ∀ b q, good b q → good' b q) : Waits good' slot :=
  fun i x hx => ⟨(h i x hx).1, fun m hw hp b hb => hg b _ ((h i x hx).2 m hw hp b hb)⟩

end SlotLaw

/-! ##### Queues -/

/-- The attempts of an operation: 1 to 8 in progress, 0 before. -/
def AttemptsFit (number : Option (BitVec 8)) (n : Nat) : Prop := if number.isSome then 1 ≤ n ∧ n ≤ 8 else n = 0

section Fits
variable {s t : State} {c : ChannelId} {number : Option (BitVec 8)} {op : Op}

theorem awaitsOp_iff (x : Slot) (pg : BitVec 16) (o n : Nat) :
    x.awaitsOp c pg o n number = true
      ↔ x.phase = .fetching ∧ ∃ overlay, x.work = .read ⟨c, pg, o, n, overlay, number⟩ := by
  obtain ⟨ticket, requester, work, phase⟩ := x
  cases phase with
  | fetching =>
    cases work with
    | read r =>
      obtain ⟨c', pg', o', n', overlay, number'⟩ := r
      simp only [Slot.awaitsOp, Bool.and_eq_true, beq_iff_eq, true_and, SlotWork.read.injEq, ReadWork.mk.injEq]
      constructor
      · rintro ⟨⟨⟨⟨rfl, rfl⟩, rfl⟩, rfl⟩, rfl⟩; exact ⟨overlay, rfl, rfl, rfl, rfl, rfl, rfl⟩
      · rintro ⟨_, rfl, rfl, rfl, rfl, rfl, rfl⟩; exact ⟨⟨⟨⟨rfl, rfl⟩, rfl⟩, rfl⟩, rfl⟩
    | sync m => simp [Slot.awaitsOp]
  | ready | failed => simp [Slot.awaitsOp]

theorem attemptsFit_iff (number : Option (BitVec 8)) (n : Nat) :
    (if number.isSome then decide (1 ≤ n) && decide (n ≤ 8) else n == 0) = true ↔ AttemptsFit number n := by
  unfold AttemptsFit
  split <;> simp

theorem opFits_fetch_iff {pg : BitVec 16} {o n : Nat} {i : SlotId} (hk : op.kind = .fetch pg o n i) :
    s.opFits c number op = true ↔ AttemptsFit number op.attempts
      ∧ ∃ x, s.slot i = some x ∧ x.phase = .fetching ∧ ∃ overlay, x.work = .read ⟨c, pg, o, n, overlay, number⟩ := by
  rw [State.opFits, Bool.and_eq_true, attemptsFit_iff, hk]
  simp only [Option.any_eq_true, awaitsOp_iff]

theorem opFits_program_iff {pg : BitVec 16} {b : BufferId} (hk : op.kind = .program pg b) :
    s.opFits c number op = true ↔ AttemptsFit number op.attempts
      ∧ ∃ x, s.buffer b = some x ∧ x.channel = c ∧ x.page = pg ∧ x.attempts = op.attempts
        ∧ x.phase = if number.isSome then .programming else .queued := by
  rw [State.opFits, Bool.and_eq_true, attemptsFit_iff, hk]
  simp only [bufferHas_iff, Bool.and_eq_true, isOn_iff, beq_iff_eq, and_assoc]

theorem opFits_clear_iff {sector : BitVec 12} {q : ReqId} (hk : op.kind = .clear sector q) :
    s.opFits c number op = true ↔ AttemptsFit number op.attempts ∧ q ≠ 0 := by
  rw [State.opFits, Bool.and_eq_true, attemptsFit_iff, hk, bne_iff_ne]

theorem attemptsFit_of_opFits (h : s.opFits c number op = true) : AttemptsFit number op.attempts := by
  rw [State.opFits, Bool.and_eq_true, attemptsFit_iff] at h
  exact h.1

/-- An operation fits its owner as long as a buffer on its way and a slot that fetches keep what the operation names. -/
theorem opFits_of_owner (h : s.opFits c number op = true)
    (hb : ∀ b, op.bufferRef = some b → ∀ x, s.buffer b = some x → x.onWay = true →
      ∃ y, t.buffer b = some y ∧ y.channel = x.channel ∧ y.page = x.page ∧ y.attempts = x.attempts ∧ y.phase = x.phase)
    (hi : ∀ i, op.slotRef = some i → ∀ x, s.slot i = some x → x.fetchesRead = true →
      ∃ y, t.slot i = some y ∧ y.phase = x.phase ∧ y.work = x.work) : t.opFits c number op = true := by
  cases hk : op.kind with
  | fetch pg o n i =>
    rw [opFits_fetch_iff hk] at h ⊢
    obtain ⟨ha, x, hx, hp, overlay, hw⟩ := h
    obtain ⟨y, hy, hyp, hyw⟩ := hi i (by simp [Op.slotRef, hk]) x hx (by simp [Slot.fetchesRead, hp, hw])
    exact ⟨ha, y, hy, hyp.trans hp, overlay, hyw.trans hw⟩
  | program pg b =>
    rw [opFits_program_iff hk] at h ⊢
    obtain ⟨ha, x, hx, hc, hpg, hat, hp⟩ := h
    have hway : x.onWay = true := by
      rw [onWay_iff, hp]
      cases number <;> simp
    obtain ⟨y, hy, hyc, hyp, hya, hyph⟩ := hb b (by simp [Op.bufferRef, hk]) x hx hway
    exact ⟨ha, y, hy, hyc.trans hc, hyp.trans hpg, hya.trans hat, hyph.trans hp⟩
  | clear sector q =>
    rw [opFits_clear_iff hk] at h ⊢
    exact h

end Fits

/-- The operations of a queue agree with their owners, the head with that number of an attempt, the rest waiting. -/
def State.FitsFrom (s : State) (c : ChannelId) (number : Option (BitVec 8)) : List Op → Prop
  | [] => True
  | op :: rest => s.opFits c number op = true ∧ ∀ r ∈ rest, s.opFits c none r = true

/-- The gap of an event: a channel without an operation in progress, with the number its head still has. -/
abbrev Gap := Option (ChannelId × Option (BitVec 8))

/-- The number the head of a channel's queue has. -/
def State.headNumber (s : State) : Gap → ChannelId → Option (BitVec 8)
  | some (c', number), c => if c = c' then number else some (s.channel c).number
  | none, c => some (s.channel c).number

/-- The laws of the queues. -/
structure QueueLaw (gap : Gap) (s : State) : Prop where
  fits : ∀ c, s.FitsFrom c (s.headNumber gap c) (s.channel c).queue
  buffersOnce : s.queuedBuffers.Nodup
  slotsOnce : s.queuedSlots.Nodup
  owned : ∀ b x, s.buffer b = some x → (x.phase = .programming ∨ x.phase = .queued ∧ s.restart = none) → b ∈ s.queuedBuffers
  awaited : s.restart = none → ∀ i x, s.slot i = some x → x.fetchesRead = true → i ∈ s.queuedSlots
  clears : ∀ c, (s.channel c).queue.Pairwise fun a b => a.mayPrecede b = true

/-- A channel in the gap of an event: nothing runs. -/
def Channel.resting (ch : Channel) : Prop := ch.queue.length ≤ 16 ∧ ch.timer = none ∧ ch.streak ≤ 15

/-- The laws of the channels. -/
def ChannelLaw (gap : Gap) (s : State) : Prop :=
  ∀ c, if gap.any (fun g => g.1 = c) then (s.channel c).resting else (s.channel c).lawful

/-- The laws of pool, slots, queues and channels together. -/
structure Core (gap : Gap) (s : State) : Prop where
  pool : PoolLaw s
  slots : SlotLaw s
  queues : QueueLaw gap s
  channels : ChannelLaw gap s

section Core
variable {s : State}

theorem queueFits_iff (c : ChannelId) :
    s.queueFits c = true ↔ s.FitsFrom c (some (s.channel c).number) (s.channel c).queue := by
  unfold State.queueFits
  cases (s.channel c).queue with
  | nil => simp [State.FitsFrom]
  | cons op rest => simp [State.FitsFrom]

theorem queueLaw_iff : QueueLaw none s ↔ s.queuesLawful ∧ s.clearsLawful := by
  have howned : (∀ b : BufferId, (s.bufferHas b fun x => x.phase == .programming || (x.phase == .queued && !s.restartPending)) = true →
        b ∈ s.queuedBuffers)
      ↔ ∀ b x, s.buffer b = some x → (x.phase = .programming ∨ x.phase = .queued ∧ s.restart = none) → b ∈ s.queuedBuffers := by
    simp only [bufferHas_iff, Bool.or_eq_true, beq_iff_eq, Bool.and_eq_true, Bool.not_eq_true', State.restartPending,
      Option.isSome_eq_false_iff, Option.isNone_iff_eq_none, forall_exists_index, and_imp]
  have hawaited : (s.restart = none → ∀ i : SlotId, ((s.slot i).any Slot.fetchesRead) = true → i ∈ s.queuedSlots)
      ↔ (s.restart = none → ∀ i x, s.slot i = some x → x.fetchesRead = true → i ∈ s.queuedSlots) := by
    simp only [Option.any_eq_true, forall_exists_index, and_imp]
  constructor
  · intro h
    exact ⟨⟨(queueFits_iff .sc0).mpr (h.fits .sc0), (queueFits_iff .sc1).mpr (h.fits .sc1), h.buffersOnce, h.slotsOnce,
      howned.mpr h.owned, hawaited.mpr h.awaited⟩, h.clears .sc0, h.clears .sc1⟩
  · rintro ⟨⟨h0, h1, hb, hs, ho, ha⟩, hk0, hk1⟩
    refine ⟨fun c => ?_, hb, hs, howned.mp ho, hawaited.mp ha, fun c => ?_⟩
    · cases c
      · exact (queueFits_iff .sc0).mp h0
      · exact (queueFits_iff .sc1).mp h1
    · cases c
      · exact hk0
      · exact hk1

theorem channelLaw_none_iff : ChannelLaw none s ↔ s.channelsLawful := by
  constructor
  · intro h
    exact ⟨h .sc0, h .sc1⟩
  · rintro ⟨h0, h1⟩ c
    cases c
    · exact h0
    · exact h1

/-- Without a gap the core is the laws of the model. -/
theorem core_iff : Core none s ↔ s.slotsLawful ∧ s.channelsLawful ∧ s.queuesLawful ∧ s.buffersLawful ∧ s.listsLawful
    ∧ s.occupancyLawful ∧ s.pageOrderLawful ∧ s.holdsLawful ∧ s.clearsLawful := by
  constructor
  · rintro ⟨hp, hs, hq, hc⟩
    obtain ⟨hq, hk⟩ := queueLaw_iff.mp hq
    exact ⟨slotsLawful_iff.mpr hs, channelLaw_none_iff.mp hc, hq, hp.buffersLawful, hp.lists, hp.occupancyLawful,
      hp.pageOrderLawful, hp.holdsLawful, hk⟩
  · rintro ⟨hs, hc, hq, hb, hl, ho, hp, hh, hk⟩
    exact ⟨poolLaw_of_laws hb hl ho hp hh, slotsLawful_iff.mp hs, queueLaw_iff.mpr ⟨hq, hk⟩, channelLaw_none_iff.mpr hc⟩

end Core

end Sys2Proof.Machine

/-! #### One step of each law -/

namespace Sys2Proof.Machine

/-! ##### Pool -/

/-- The buffer b goes from x in s to y in t inside the laws of the pool. -/
structure PoolStep (s t : State) (b : BufferId) (x y : Buffer) : Prop where
  channel : y.channel = x.channel
  page : y.page = x.page
  ranges : y.inRanges = true ∧ cellsWf y.staged
  opens : y.isOpen = true → x.isOpen = true
  way : y.onWay = true → ∀ a z, [a, b].Sublist s.openOrder → s.buffer a = some z → ¬ (x.channel = z.channel ∧ x.page = z.page)
  holds : t.channelFits y = true

/-- Two channel states count the same for the buffers of the channel. -/
def SameStanding (a b : ChannelState) : Prop := b.online = a.online ∧ (b = .offline ↔ a = .offline)

theorem SameStanding.refl (a : ChannelState) : SameStanding a a := ⟨rfl, Iff.rfl⟩

section PoolSteps
variable {s t : State} {b : BufferId} {x y : Buffer}

/-- A buffer on its way has no older one of its page (R37). -/
theorem PoolLaw.no_older (h : PoolLaw s) (hx : s.buffer b = some x) (hw : x.onWay = true) {a : BufferId} {z : Buffer}
    (hab : [a, b].Sublist s.openOrder) (hz : s.buffer a = some z) : ¬ (x.channel = z.channel ∧ x.page = z.page) := by
  rintro ⟨hc, hp⟩
  have := (List.pairwise_iff_forall_sublist.mp h.order hab z x hz hx hc hp).2
  rw [hw] at this
  cases this

theorem channelFits_congr (hc : SameStanding (s.channel x.channel).state (t.channel x.channel).state)
    (hr : t.restart = s.restart) : t.channelFits x = s.channelFits x := by
  obtain ⟨hon, hoff⟩ := hc
  have hne : ((t.channel x.channel).state != .offline) = ((s.channel x.channel).state != .offline) := by
    rw [Bool.eq_iff_iff, bne_iff_ne, bne_iff_ne]
    exact not_congr hoff
  have hp : t.restartPending = s.restartPending := by simp only [State.restartPending, hr]
  unfold State.channelFits
  rw [hne, hon, hp]

/-- A step of the pool in which no buffer opens. -/
theorem PoolLaw.step (hs : PoolLaw s) (hsub : t.openOrder.Sublist s.openOrder)
    (hlive : ∀ b : BufferId, b ∈ t.openOrder ↔ (t.buffer b).isSome = true)
    (hbuf : ∀ b y, t.buffer b = some y → ∃ x, s.buffer b = some x ∧ PoolStep s t b x y)
    (hnodup : t.sealList.Nodup) (hsealed : ∀ b : BufferId, b ∈ t.sealList ↔ t.bufferHas b Buffer.isSealed = true) :
    PoolLaw t where
  ranges := fun b y hy => by
    obtain ⟨x, -, h⟩ := hbuf b y hy
    exact h.ranges
  lists := ⟨hs.lists.1.sublist hsub, hlive, hnodup, hsealed⟩
  order := by
    rw [List.pairwise_iff_forall_sublist]
    intro a b hab y z hy hz hc hp
    obtain ⟨x, hx, hxy⟩ := hbuf a y hy
    obtain ⟨w, hw, hwz⟩ := hbuf b z hz
    have hc' : w.channel = x.channel := by rw [← hwz.channel, hc, hxy.channel]
    have hp' : w.page = x.page := by rw [← hwz.page, hp, hxy.page]
    have hab' := hab.trans hsub
    obtain ⟨hopen, -⟩ := List.pairwise_iff_forall_sublist.mp hs.order hab' x w hx hw hc' hp'
    refine ⟨Bool.eq_false_iff.mpr fun h => ?_, Bool.eq_false_iff.mpr fun h => ?_⟩
    · rw [hxy.opens h] at hopen
      cases hopen
    · exact hwz.way h a x hab' hx ⟨hc', hp'⟩
  room := fun c pg => by
    have hsubset : (t.liveOn c pg).Sublist (s.liveOn c pg) := by
      have hsame : t.liveOn c pg = t.openOrder.filter fun b => s.bufferHas b (Buffer.isOn c pg) := by
        refine List.filter_congr fun b hb => ?_
        obtain ⟨y, hy⟩ := Option.isSome_iff_exists.mp ((hlive b).mp hb)
        obtain ⟨x, hx, hxy⟩ := hbuf b y hy
        rw [bufferHas_of_some hy, bufferHas_of_some hx, Buffer.isOn, Buffer.isOn, hxy.channel, hxy.page]
      rw [hsame]
      exact hsub.filter _
    exact hsubset.length_le.trans (hs.room c pg)
  holds := fun b y hy => by
    obtain ⟨x, -, h⟩ := hbuf b y hy
    exact h.holds

/-- A buffer that stays as it is. -/
theorem PoolLaw.same (hs : PoolLaw s) (hx : s.buffer b = some x) (hh : t.channelFits x = true) : PoolStep s t b x x where
  channel := rfl
  page := rfl
  ranges := hs.ranges b x hx
  opens := fun h => h
  way := fun h _ _ hab hz => hs.no_older hx h hab hz
  holds := hh

/-- A step of the pool that changes one buffer. -/
theorem PoolLaw.set (hs : PoolLaw s) (hx : s.buffer b = some x)
    (hbuf : ∀ b', t.buffer b' = if b' = b then some y else s.buffer b') (hopen : t.openOrder = s.openOrder)
    (hstate : ∀ c, SameStanding (s.channel c).state (t.channel c).state) (hr : t.restart = s.restart)
    (hy : PoolStep s t b x y) (hnodup : t.sealList.Nodup) (hlist : ∀ b', b' ≠ b → (b' ∈ t.sealList ↔ b' ∈ s.sealList))
    (hb : b ∈ t.sealList ↔ y.isSealed = true) : PoolLaw t := by
  obtain ⟨-, hlive, -, hsealed⟩ := hs.lists
  refine hs.step (by rw [hopen]) (fun b' => ?_) (fun b' z hz => ?_) hnodup fun b' => ?_
  · rw [hopen, hlive, hbuf]
    split
    next h => subst h; rw [hx]; rfl
    next => rfl
  · rw [hbuf] at hz
    split at hz
    next h => subst h; cases hz; exact ⟨x, hx, hy⟩
    next => exact ⟨z, hz, hs.same hz (by rw [channelFits_congr (hstate _) hr]; exact hs.holds b' z hz)⟩
  · by_cases h : b' = b
    · subst h
      rw [hb, bufferHas_of_some (by rw [hbuf, if_pos rfl])]
    · rw [hlist b' h, hsealed, State.bufferHas, State.bufferHas, hbuf, if_neg h]

/-- A step of the pool in which a buffer that is not SEALED becomes FREE. -/
theorem PoolLaw.freed (hs : PoolLaw s) (hx : s.buffer b = some x) (hno : x.isSealed = false)
    (hbuf : ∀ b', t.buffer b' = if b' = b then none else s.buffer b') (hopen : t.openOrder = s.openOrder.filter (· ≠ b))
    (hstate : ∀ c, SameStanding (s.channel c).state (t.channel c).state) (hr : t.restart = s.restart)
    (hlist : t.sealList = s.sealList) : PoolLaw t := by
  obtain ⟨-, hlive, hnodup, hsealed⟩ := hs.lists
  refine hs.step (by rw [hopen]; exact List.filter_sublist) (fun b' => ?_) (fun b' z hz => ?_) (by rwa [hlist]) fun b' => ?_
  · rw [hopen, hbuf]
    by_cases h : b' = b
    · simp [h]
    · simp [h, hlive]
  · rw [hbuf] at hz
    split at hz
    next => cases hz
    next => exact ⟨z, hz, hs.same hz (by rw [channelFits_congr (hstate _) hr]; exact hs.holds b' z hz)⟩
  · rw [hlist, hsealed, State.bufferHas, State.bufferHas, hbuf]
    by_cases h : b' = b
    · subst h
      rw [hx, if_pos rfl]
      simp [hno]
    · rw [if_neg h]

end PoolSteps

/-! ##### Slots -/

section SlotSteps
variable {s t : State}

/-- The slots stay, and what is on its way stays on its way. -/
theorem SlotLaw.keep (h : SlotLaw s) (hslot : ∀ i, t.slot i = s.slot i) (hc : ∀ b q, s.Coming b q → t.Coming b q) : SlotLaw t := by
  intro i x hx
  rw [hslot] at hx
  exact (h.mono hc) i x hx

/-- Every buffer on its way stays on its way, with its writers. -/
theorem coming_of_buffers
    (h : ∀ b x, s.buffer b = some x → x.phase.committing = true →
      ∃ y, t.buffer b = some y ∧ y.phase.committing = true ∧ ∀ n, inSet x.writers n = true → inSet y.writers n = true)
    {b : BufferId} {q : ReqId} (hb : s.Coming b q) : t.Coming b q := by
  obtain ⟨x, hx, hc, hw⟩ := hb
  obtain ⟨y, hy, hcy, hwy⟩ := h b x hx hc
  exact ⟨y, hy, hcy, hwy _ hw⟩

end SlotSteps

/-! ##### Queues -/

/-- The other channel. -/
def otherChannel : ChannelId → ChannelId
  | .sc0 => .sc1
  | .sc1 => .sc0

section QueueSteps
variable {s t : State} {c : ChannelId} {gap : Gap} {op : Op} {rest : List Op}

theorem eq_otherChannel {c c' : ChannelId} (h : c' ≠ c) : c' = otherChannel c := by
  cases c <;> cases c' <;> simp_all [otherChannel]

theorem allOps_perm (s : State) (c : ChannelId) : s.allOps.Perm ((s.channel c).queue ++ (s.channel (otherChannel c)).queue) := by
  cases c
  · exact List.Perm.refl _
  · exact List.perm_append_comm

theorem mem_allOps : op ∈ s.allOps ↔ ∃ c, op ∈ (s.channel c).queue := by
  constructor
  · intro h
    rcases List.mem_append.mp h with h | h
    · exact ⟨.sc0, h⟩
    · exact ⟨.sc1, h⟩
  · rintro ⟨c, h⟩
    exact (allOps_perm s c).mem_iff.mpr (List.mem_append_left _ h)

theorem mem_queuedBuffers {b : BufferId} : b ∈ s.queuedBuffers ↔ ∃ c, ∃ op ∈ (s.channel c).queue, op.bufferRef = some b := by
  simp only [State.queuedBuffers, List.mem_filterMap, mem_allOps]
  constructor
  · rintro ⟨op, ⟨c, hc⟩, hr⟩; exact ⟨c, op, hc, hr⟩
  · rintro ⟨c, op, hc, hr⟩; exact ⟨op, ⟨c, hc⟩, hr⟩

theorem mem_queuedSlots {i : SlotId} : i ∈ s.queuedSlots ↔ ∃ c, ∃ op ∈ (s.channel c).queue, op.slotRef = some i := by
  simp only [State.queuedSlots, List.mem_filterMap, mem_allOps]
  constructor
  · rintro ⟨op, ⟨c, hc⟩, hr⟩; exact ⟨c, op, hc, hr⟩
  · rintro ⟨c, op, hc, hr⟩; exact ⟨op, ⟨c, hc⟩, hr⟩

/-- Every operation of a queue fits its owner, with some number. -/
theorem QueueLaw.fits_of_mem (h : QueueLaw gap s) (hm : op ∈ (s.channel c).queue) : ∃ number, s.opFits c number op = true := by
  have hfits := h.fits c
  cases hq : (s.channel c).queue with
  | nil => rw [hq] at hm; cases hm
  | cons a rest =>
    rw [hq] at hm hfits
    obtain ⟨ha, hrest⟩ := hfits
    rcases List.mem_cons.mp hm with rfl | hm
    · exact ⟨_, ha⟩
    · exact ⟨_, hrest op hm⟩

/-- The buffer of a queued operation is on its way, on the operation's channel. -/
theorem QueueLaw.onWay_of_ref (h : QueueLaw gap s) (hm : op ∈ (s.channel c).queue) {b : BufferId} (hb : op.bufferRef = some b) :
    ∃ x, s.buffer b = some x ∧ x.onWay = true ∧ x.channel = c := by
  obtain ⟨number, hfit⟩ := h.fits_of_mem hm
  cases hk : op.kind with
  | program pg b' =>
    obtain rfl : b' = b := by simpa [Op.bufferRef, hk] using hb
    obtain ⟨-, x, hx, hc, -, -, hp⟩ := (opFits_program_iff hk).mp hfit
    refine ⟨x, hx, (onWay_iff x).mpr ?_, hc⟩
    rw [hp]
    cases number <;> simp
  | fetch | clear => simp [Op.bufferRef, hk] at hb

/-- The slot of a queued operation fetches. -/
theorem QueueLaw.fetches_of_ref (h : QueueLaw gap s) (hm : op ∈ (s.channel c).queue) {i : SlotId} (hi : op.slotRef = some i) :
    ∃ x, s.slot i = some x ∧ x.fetchesRead = true := by
  obtain ⟨number, hfit⟩ := h.fits_of_mem hm
  cases hk : op.kind with
  | fetch pg o n i' =>
    obtain rfl : i' = i := by simpa [Op.slotRef, hk] using hi
    obtain ⟨-, x, hx, hp, overlay, hw⟩ := (opFits_fetch_iff hk).mp hfit
    exact ⟨x, hx, by simp [Slot.fetchesRead, hp, hw]⟩
  | program | clear => simp [Op.slotRef, hk] at hi

/-- The owners of the operations of a list are left by a step. -/
structure OwnersKept (s t : State) (ops : List Op) : Prop where
  buffer : ∀ op ∈ ops, ∀ b, op.bufferRef = some b → ∀ x, s.buffer b = some x → x.onWay = true →
    ∃ y, t.buffer b = some y ∧ y.channel = x.channel ∧ y.page = x.page ∧ y.attempts = x.attempts ∧ y.phase = x.phase
  slot : ∀ op ∈ ops, ∀ i, op.slotRef = some i → ∀ x, s.slot i = some x → x.fetchesRead = true →
    ∃ y, t.slot i = some y ∧ y.phase = x.phase ∧ y.work = x.work

theorem OwnersKept.mono {ops ops' : List Op} (h : OwnersKept s t ops) (hsub : ∀ op ∈ ops', op ∈ ops) : OwnersKept s t ops' :=
  ⟨fun op hop => h.buffer op (hsub op hop), fun op hop => h.slot op (hsub op hop)⟩

theorem OwnersKept.fits {ops : List Op} (h : OwnersKept s t ops) {number : Option (BitVec 8)} (hm : op ∈ ops)
    (hf : s.opFits c number op = true) : t.opFits c number op = true := opFits_of_owner hf (h.buffer op hm) (h.slot op hm)

theorem OwnersKept.fitsFrom {ops : List Op} (h : OwnersKept s t ops) {number : Option (BitVec 8)}
    (hf : s.FitsFrom c number ops) : t.FitsFrom c number ops := by
  cases ops with
  | nil => trivial
  | cons op rest =>
    obtain ⟨hop, hrest⟩ := hf
    exact ⟨h.fits (List.mem_cons_self ..) hop, fun r hr => h.fits (List.mem_cons_of_mem _ hr) (hrest r hr)⟩

/-- A step that leaves the queues, and every buffer on its way and slot that fetches with what its operation names. -/
structure SameOwners (s t : State) : Prop where
  queue : ∀ c, (t.channel c).queue = (s.channel c).queue
  number : ∀ c, (t.channel c).number = (s.channel c).number
  restart : t.restart = s.restart
  way : ∀ b x, s.buffer b = some x → x.onWay = true →
    ∃ y, t.buffer b = some y ∧ y.channel = x.channel ∧ y.page = x.page ∧ y.attempts = x.attempts ∧ y.phase = x.phase
  wayBack : ∀ b y, t.buffer b = some y → y.onWay = true → ∃ x, s.buffer b = some x ∧ x.phase = y.phase
  reads : ∀ i x, s.slot i = some x → x.fetchesRead = true → ∃ y, t.slot i = some y ∧ y.phase = x.phase ∧ y.work = x.work
  readsBack : ∀ i y, t.slot i = some y → y.fetchesRead = true → ∃ x, s.slot i = some x ∧ x.fetchesRead = true

theorem headNumber_congr (h : ∀ c, (t.channel c).number = (s.channel c).number) (gap : Gap) (c : ChannelId) :
    t.headNumber gap c = s.headNumber gap c := by
  unfold State.headNumber
  split <;> rw [h]

theorem SameOwners.allOps (h : SameOwners s t) : t.allOps = s.allOps := by
  have h0 : t.sc0.queue = s.sc0.queue := h.queue .sc0
  have h1 : t.sc1.queue = s.sc1.queue := h.queue .sc1
  rw [State.allOps, State.allOps, h0, h1]

theorem QueueLaw.same (hq : QueueLaw gap s) (h : SameOwners s t) : QueueLaw gap t where
  fits := fun c => by
    have hkept : OwnersKept s t (s.channel c).queue := ⟨fun _ _ => fun b _ => h.way b, fun _ _ => fun i _ => h.reads i⟩
    rw [h.queue, headNumber_congr h.number]
    exact hkept.fitsFrom (hq.fits c)
  buffersOnce := by rw [State.queuedBuffers, h.allOps]; exact hq.buffersOnce
  slotsOnce := by rw [State.queuedSlots, h.allOps]; exact hq.slotsOnce
  owned := fun b y hy hp => by
    obtain ⟨x, hx, hxy⟩ := h.wayBack b y hy ((onWay_iff y).mpr (hp.symm.imp And.left id))
    rw [State.queuedBuffers, h.allOps]
    exact hq.owned b x hx (by rwa [hxy, ← h.restart])
  awaited := fun hr i y hy hf => by
    obtain ⟨x, hx, hxf⟩ := h.readsBack i y hy hf
    rw [State.queuedSlots, h.allOps]
    exact hq.awaited (by rwa [← h.restart]) i x hx hxf
  clears := fun c => by rw [h.queue]; exact hq.clears c

end QueueSteps

end Sys2Proof.Machine

/-! #### An operation joins a queue, leaves it, is started (R75, R78, R79) -/

namespace Sys2Proof.Machine

/-! ##### References that occur once -/

section Once
variable {α : Type} {f : Op → Option α} {l m : List Op} {op : Op}

theorem once_append (h : ((l ++ m).filterMap f).Nodup) (hnew : ∀ r, f op = some r → r ∉ (l ++ m).filterMap f) :
    (((l ++ [op]) ++ m).filterMap f).Nodup := by
  have hperm : ((l ++ [op]) ++ m).Perm (op :: (l ++ m)) := by
    rw [List.append_assoc]
    exact List.perm_middle
  rw [(hperm.filterMap f).nodup_iff, List.filterMap_cons]
  split
  next => exact h
  next r hr => exact List.nodup_cons.mpr ⟨hnew r hr, h⟩

/-- The head's reference is nobody else's. -/
theorem ref_ne_of_once (h : ((op :: l ++ m).filterMap f).Nodup) {a : Op} (ha : a ∈ l ++ m) {r : α} (hr : f a = some r) :
    f op ≠ some r := by
  intro hop
  rw [List.cons_append, List.filterMap_cons_some hop] at h
  exact (List.nodup_cons.mp h).1 (List.mem_filterMap.mpr ⟨a, ha, hr⟩)

end Once

section Queue
variable {s t : State} {c : ChannelId} {gap : Gap} {op op' : Op} {rest : List Op}

theorem once_iff {α : Type} (f : Op → Option α) (s : State) (c : ChannelId) :
    (s.allOps.filterMap f).Nodup ↔ (((s.channel c).queue ++ (s.channel (otherChannel c)).queue).filterMap f).Nodup :=
  ((allOps_perm s c).filterMap f).nodup_iff

theorem otherChannel_ne (c : ChannelId) : otherChannel c ≠ c := by cases c <;> decide

theorem fitsFrom_none {ops : List Op} (h : ∀ r ∈ ops, s.opFits c none r = true) : s.FitsFrom c none ops := by
  cases ops with
  | nil => trivial
  | cons op rest => exact ⟨h op (List.mem_cons_self ..), fun r hr => h r (List.mem_cons_of_mem _ hr)⟩

/-- An operation joins the tail of a queue. -/
theorem QueueLaw.append (hq : QueueLaw gap s)
    (hqueue : ∀ c', (t.channel c').queue = if c' = c then (s.channel c).queue ++ [op] else (s.channel c').queue)
    (hnumber : ∀ c', c' ≠ c → (t.channel c').number = (s.channel c').number)
    (hhead : (s.channel c).queue = [] ∨ t.headNumber gap c = s.headNumber gap c) (hr : t.restart = s.restart)
    (hway : ∀ b x, s.buffer b = some x → x.onWay = true → t.buffer b = some x)
    (hwayBack : ∀ b y, t.buffer b = some y → y.onWay = true → s.buffer b = some y ∨ op.bufferRef = some b)
    (hreads : ∀ i x, s.slot i = some x → x.fetchesRead = true → t.slot i = some x)
    (hreadsBack : ∀ i y, t.slot i = some y → y.fetchesRead = true → s.slot i = some y ∨ op.slotRef = some i)
    (hfit : t.opFits c (if (s.channel c).queue = [] then t.headNumber gap c else none) op = true)
    (hnewBuffer : ∀ b, op.bufferRef = some b → b ∉ s.queuedBuffers) (hnewSlot : ∀ i, op.slotRef = some i → i ∉ s.queuedSlots)
    (hclear : ∀ a ∈ (s.channel c).queue, a.mayPrecede op = true) : QueueLaw gap t := by
  have hself : (t.channel c).queue = (s.channel c).queue ++ [op] := by rw [hqueue, if_pos rfl]
  have hother : (t.channel (otherChannel c)).queue = (s.channel (otherChannel c)).queue := by
    rw [hqueue, if_neg (otherChannel_ne c)]
  have hkept (ops : List Op) : OwnersKept s t ops :=
    ⟨fun _ _ b _ x hx hw => ⟨x, hway b x hx hw, rfl, rfl, rfl, rfl⟩, fun _ _ i _ x hx hf => ⟨x, hreads i x hx hf, rfl, rfl⟩⟩
  have hmem {a : Op} {c' : ChannelId} (ha : a ∈ (s.channel c').queue) : a ∈ (t.channel c').queue := by
    rw [hqueue]
    split
    next h => subst h; exact List.mem_append_left _ ha
    next => exact ha
  have hop : op ∈ (t.channel c).queue := by rw [hself]; exact List.mem_append_right _ (List.mem_singleton_self op)
  constructor
  case fits =>
    intro c'
    by_cases h : c' = c
    · subst h
      rw [hself]
      cases hs : (s.channel c').queue with
      | nil =>
        rw [hs, if_pos rfl] at hfit
        exact ⟨hfit, fun r hr => by cases hr⟩
      | cons a tail =>
        have hsame := hhead.resolve_left (by rw [hs]; exact List.cons_ne_nil _ _)
        have hfits := hq.fits c'
        rw [hs] at hfits
        rw [hs, if_neg (List.cons_ne_nil _ _)] at hfit
        obtain ⟨ha, htail⟩ := (hkept (a :: tail)).fitsFrom hfits
        rw [hsame]
        refine ⟨ha, fun r hr => ?_⟩
        rcases List.mem_append.mp hr with hr | hr
        · exact htail r hr
        · rw [List.mem_singleton.mp hr]
          exact hfit
    · have hnum : t.headNumber gap c' = s.headNumber gap c' := by
        unfold State.headNumber
        split <;> rw [hnumber c' h]
      rw [hqueue, if_neg h, hnum]
      exact (hkept _).fitsFrom (hq.fits c')
  case buffersOnce =>
    have h := (once_iff Op.bufferRef s c).mp hq.buffersOnce
    rw [State.queuedBuffers, once_iff _ t c, hself, hother]
    refine once_append h fun b hb hmem => hnewBuffer b hb ?_
    exact ((allOps_perm s c).filterMap _).mem_iff.mpr hmem
  case slotsOnce =>
    have h := (once_iff Op.slotRef s c).mp hq.slotsOnce
    rw [State.queuedSlots, once_iff _ t c, hself, hother]
    refine once_append h fun i hi hmem => hnewSlot i hi ?_
    exact ((allOps_perm s c).filterMap _).mem_iff.mpr hmem
  case owned =>
    intro b y hy hp
    rcases hwayBack b y hy ((onWay_iff y).mpr (hp.symm.imp And.left id)) with hold | hnew
    · obtain ⟨c', a, ha, hb⟩ := mem_queuedBuffers.mp (hq.owned b y hold (by rwa [← hr]))
      exact mem_queuedBuffers.mpr ⟨c', a, hmem ha, hb⟩
    · exact mem_queuedBuffers.mpr ⟨c, op, hop, hnew⟩
  case awaited =>
    intro hnone i y hy hf
    rcases hreadsBack i y hy hf with hold | hnew
    · obtain ⟨c', a, ha, hi⟩ := mem_queuedSlots.mp (hq.awaited (by rwa [← hr]) i y hold hf)
      exact mem_queuedSlots.mpr ⟨c', a, hmem ha, hi⟩
    · exact mem_queuedSlots.mpr ⟨c, op, hop, hnew⟩
  case clears =>
    intro c'
    rw [hqueue]
    split
    next h =>
      subst h
      refine List.pairwise_append.mpr ⟨hq.clears c', List.pairwise_singleton .., fun a ha b hb => ?_⟩
      rw [List.mem_singleton.mp hb]
      exact hclear a ha
    next => exact hq.clears c'

/-- The other operations do not name the buffer or the slot of the head. -/
theorem QueueLaw.head_alone (hq : QueueLaw gap s) (hs : (s.channel c).queue = op :: rest) {a : Op}
    (ha : a ∈ rest ∨ a ∈ (s.channel (otherChannel c)).queue) :
    (∀ b, a.bufferRef = some b → op.bufferRef ≠ some b) ∧ ∀ i, a.slotRef = some i → op.slotRef ≠ some i := by
  have hmem : a ∈ rest ++ (s.channel (otherChannel c)).queue := List.mem_append.mpr ha
  have hb := (once_iff Op.bufferRef s c).mp hq.buffersOnce
  have hi := (once_iff Op.slotRef s c).mp hq.slotsOnce
  rw [hs] at hb hi
  exact ⟨fun b hab => ref_ne_of_once hb hmem hab, fun i hai => ref_ne_of_once hi hmem hai⟩

/-- A step that leaves every owner but that of the head operation. -/
structure OthersKept (s t : State) (op : Op) : Prop where
  way : ∀ b x, s.buffer b = some x → x.onWay = true → op.bufferRef ≠ some b → t.buffer b = some x
  reads : ∀ i x, s.slot i = some x → x.fetchesRead = true → op.slotRef ≠ some i → t.slot i = some x
  wayBack : ∀ b y, t.buffer b = some y → y.onWay = true → op.bufferRef ≠ some b → s.buffer b = some y
  readsBack : ∀ i y, t.slot i = some y → y.fetchesRead = true → op.slotRef ≠ some i → s.slot i = some y

theorem OthersKept.ownersKept (h : OthersKept s t op) (hq : QueueLaw gap s) (hs : (s.channel c).queue = op :: rest)
    {ops : List Op} (hops : ∀ a ∈ ops, a ∈ rest ∨ a ∈ (s.channel (otherChannel c)).queue) : OwnersKept s t ops := by
  refine ⟨fun a ha b hab x hx hw => ?_, fun a ha i hai x hx hf => ?_⟩
  · exact ⟨x, h.way b x hx hw ((hq.head_alone hs (hops a ha)).1 b hab), rfl, rfl, rfl, rfl⟩
  · exact ⟨x, h.reads i x hx hf ((hq.head_alone hs (hops a ha)).2 i hai), rfl, rfl⟩

/-- The gap is at the channel, if there is one. -/
def GapAt (gap : Gap) (c : ChannelId) : Prop := ∀ c' number, gap = some (c', number) → c' = c

theorem headNumber_of_gapAt (h : GapAt gap c) {c' : ChannelId} (hc : c' ≠ c) :
    s.headNumber gap c' = some (s.channel c').number := by
  cases gap with
  | none => rfl
  | some g =>
    obtain ⟨c'', number⟩ := g
    obtain rfl := h c'' number rfl
    exact if_neg hc

/-- The head operation leaves its queue, with its buffer no longer on its way and its slot no longer fetching. -/
theorem QueueLaw.leave (hq : QueueLaw gap s) (hgap : GapAt gap c) (hs : (s.channel c).queue = op :: rest)
    (hqueue : ∀ c', (t.channel c').queue = if c' = c then rest else (s.channel c').queue)
    (hnumber : ∀ c', c' ≠ c → (t.channel c').number = (s.channel c').number) (hr : t.restart = s.restart)
    (hothers : OthersKept s t op) (hbuffer : ∀ b y, op.bufferRef = some b → t.buffer b = some y → y.onWay = false)
    (hslot : ∀ i y, op.slotRef = some i → t.slot i = some y → y.fetchesRead = false) : QueueLaw (some (c, none)) t := by
  have hself : (t.channel c).queue = rest := by rw [hqueue, if_pos rfl]
  have hother : (t.channel (otherChannel c)).queue = (s.channel (otherChannel c)).queue := by
    rw [hqueue, if_neg (otherChannel_ne c)]
  have hmem {a : Op} {c' : ChannelId} (ha : a ∈ (s.channel c').queue) (hne : a ≠ op) : a ∈ (t.channel c').queue := by
    rw [hqueue]
    split
    next h =>
      subst h
      rw [hs] at ha
      exact (List.mem_cons.mp ha).resolve_left hne
    next => exact ha
  constructor
  case fits =>
    intro c'
    by_cases h : c' = c
    · subst h
      have hhead : t.headNumber (some (c', none)) c' = none := if_pos rfl
      have hfits := hq.fits c'
      rw [hs] at hfits
      rw [hself, hhead]
      exact fitsFrom_none fun r hr =>
        (hothers.ownersKept hq hs (ops := rest) fun a ha => .inl ha).fits hr (hfits.2 r hr)
    · have hhead : t.headNumber (some (c, none)) c' = some (t.channel c').number := if_neg h
      have hfits := hq.fits c'
      rw [headNumber_of_gapAt hgap h] at hfits
      rw [hqueue, if_neg h, hhead, hnumber c' h]
      have hcc := eq_otherChannel h
      subst hcc
      exact (hothers.ownersKept hq hs fun a ha => .inr ha).fitsFrom hfits
  case buffersOnce =>
    have h := (once_iff Op.bufferRef s c).mp hq.buffersOnce
    rw [hs] at h
    rw [State.queuedBuffers, once_iff _ t c, hself, hother]
    exact h.sublist ((List.sublist_cons_self ..).filterMap _)
  case slotsOnce =>
    have h := (once_iff Op.slotRef s c).mp hq.slotsOnce
    rw [hs] at h
    rw [State.queuedSlots, once_iff _ t c, hself, hother]
    exact h.sublist ((List.sublist_cons_self ..).filterMap _)
  case owned =>
    intro b y hy hp
    have hw : y.onWay = true := (onWay_iff y).mpr (hp.symm.imp And.left id)
    have hne : op.bufferRef ≠ some b := fun h => by rw [hbuffer b y h hy] at hw; cases hw
    obtain ⟨c', a, ha, hb⟩ := mem_queuedBuffers.mp (hq.owned b y (hothers.wayBack b y hy hw hne) (by rwa [← hr]))
    exact mem_queuedBuffers.mpr ⟨c', a, hmem ha (fun h => hne (h ▸ hb)), hb⟩
  case awaited =>
    intro hnone i y hy hf
    have hne : op.slotRef ≠ some i := fun h => by rw [hslot i y h hy] at hf; cases hf
    obtain ⟨c', a, ha, hi⟩ := mem_queuedSlots.mp (hq.awaited (by rwa [← hr]) i y (hothers.readsBack i y hy hf hne) hf)
    exact mem_queuedSlots.mpr ⟨c', a, hmem ha (fun h => hne (h ▸ hi)), hi⟩
  case clears =>
    intro c'
    rw [hqueue]
    split
    next h =>
      subst h
      have hclears := hq.clears c'
      rw [hs] at hclears
      exact (List.pairwise_cons.mp hclears).2
    next => exact hq.clears c'

theorem refs_eq_of_kind (h : op'.kind = op.kind) : op'.bufferRef = op.bufferRef ∧ op'.slotRef = op.slotRef := by
  simp only [Op.bufferRef, Op.slotRef, h, and_self]

/-- The head operation of the channel in the gap is started. -/
theorem QueueLaw.start {number : Option (BitVec 8)} (hq : QueueLaw (some (c, number)) s) (hs : (s.channel c).queue = op :: rest)
    (hkind : op'.kind = op.kind) (hqueue : ∀ c', (t.channel c').queue = if c' = c then op' :: rest else (s.channel c').queue)
    (hnumber : ∀ c', c' ≠ c → (t.channel c').number = (s.channel c').number) (hr : t.restart = s.restart)
    (hothers : OthersKept s t op) (hfit : t.opFits c (some (t.channel c).number) op' = true) : QueueLaw none t := by
  have hself : (t.channel c).queue = op' :: rest := by rw [hqueue, if_pos rfl]
  have hother : (t.channel (otherChannel c)).queue = (s.channel (otherChannel c)).queue := by
    rw [hqueue, if_neg (otherChannel_ne c)]
  obtain ⟨hrefb, hrefs⟩ := refs_eq_of_kind hkind
  have hmem {a : Op} {c' : ChannelId} (ha : a ∈ (s.channel c').queue) : a = op ∨ a ∈ (t.channel c').queue := by
    rw [hqueue]
    split
    next h =>
      subst h
      rw [hs] at ha
      exact (List.mem_cons.mp ha).imp id (List.mem_cons_of_mem _)
    next => exact .inr ha
  have hop : op' ∈ (t.channel c).queue := by rw [hself]; exact List.mem_cons_self ..
  have hgap : GapAt (some (c, number)) c := fun c' n h => by cases h; rfl
  constructor
  case fits =>
    intro c'
    by_cases h : c' = c
    · subst h
      have hfits := hq.fits c'
      rw [hs] at hfits
      rw [hself]
      exact ⟨hfit, fun r hr => (hothers.ownersKept hq hs (ops := rest) fun a ha => .inl ha).fits hr (hfits.2 r hr)⟩
    · have hfits := hq.fits c'
      rw [headNumber_of_gapAt hgap h] at hfits
      rw [State.headNumber, hqueue, if_neg h, hnumber c' h]
      have hcc := eq_otherChannel h
      subst hcc
      exact (hothers.ownersKept hq hs fun a ha => .inr ha).fitsFrom hfits
  case buffersOnce =>
    have h := (once_iff Op.bufferRef s c).mp hq.buffersOnce
    rw [hs] at h
    rw [State.queuedBuffers, once_iff _ t c, hself, hother]
    simpa only [List.cons_append, List.filterMap_cons, hrefb] using h
  case slotsOnce =>
    have h := (once_iff Op.slotRef s c).mp hq.slotsOnce
    rw [hs] at h
    rw [State.queuedSlots, once_iff _ t c, hself, hother]
    simpa only [List.cons_append, List.filterMap_cons, hrefs] using h
  case owned =>
    intro b y hy hp
    have hw : y.onWay = true := (onWay_iff y).mpr (hp.symm.imp And.left id)
    by_cases hb : op.bufferRef = some b
    · exact mem_queuedBuffers.mpr ⟨c, op', hop, hrefb.trans hb⟩
    · obtain ⟨c', a, ha, hab⟩ := mem_queuedBuffers.mp (hq.owned b y (hothers.wayBack b y hy hw hb) (by rwa [← hr]))
      exact mem_queuedBuffers.mpr ⟨c', a, (hmem ha).resolve_left (fun h => hb (h ▸ hab)), hab⟩
  case awaited =>
    intro hnone i y hy hf
    by_cases hi : op.slotRef = some i
    · exact mem_queuedSlots.mpr ⟨c, op', hop, hrefs.trans hi⟩
    · obtain ⟨c', a, ha, hai⟩ := mem_queuedSlots.mp (hq.awaited (by rwa [← hr]) i y (hothers.readsBack i y hy hf hi) hf)
      exact mem_queuedSlots.mpr ⟨c', a, (hmem ha).resolve_left (fun h => hi (h ▸ hai)), hai⟩
  case clears =>
    intro c'
    rw [hqueue]
    split
    next h =>
      subst h
      have hclears := hq.clears c'
      rw [hs] at hclears
      obtain ⟨hhead, htail⟩ := List.pairwise_cons.mp hclears
      refine List.pairwise_cons.mpr ⟨fun a ha => ?_, htail⟩
      have hprecede := hhead a ha
      unfold Op.mayPrecede Op.programsUnder at hprecede ⊢
      rwa [hkind]
    next => exact hq.clears c'

end Queue

end Sys2Proof.Machine

/-! ### What every byte reads as (R44, R45, R59) -/

namespace Sys2Proof.Machine

/-- What a buffer stages, and where. -/
def Buffer.staging (x : Buffer) : ChannelId × BitVec 16 × Cells := (x.channel, x.page, x.staged)

/-- t has the staged bytes of s in their order, and CLEARs of the same sectors queued. -/
structure SameReads (s t : State) : Prop where
  openOrder : t.openOrder = s.openOrder
  staging : ∀ b, (t.buffer b).map Buffer.staging = (s.buffer b).map Buffer.staging
  clears : ∀ c pg, (t.channel c).queue.any (Op.clears pg) = (s.channel c).queue.any (Op.clears pg)

section SameReads
variable {s t u : State} {b : BufferId} {c : ChannelId} {x y : Buffer}

theorem SameReads.refl (s : State) : SameReads s s := ⟨rfl, fun _ => rfl, fun _ _ => rfl⟩

theorem SameReads.trans (h : SameReads s t) (k : SameReads t u) : SameReads s u :=
  ⟨k.openOrder.trans h.openOrder, fun b => (k.staging b).trans (h.staging b), fun c pg => (k.clears c pg).trans (h.clears c pg)⟩

theorem sameReads_of_eq (ho : t.openOrder = s.openOrder) (hb : ∀ b, t.buffer b = s.buffer b)
    (hc : ∀ c, t.channel c = s.channel c) : SameReads s t :=
  ⟨ho, fun b => by rw [hb], fun c pg => by rw [hc]⟩

/-- The byte of one live buffer of the page, by what it stages. -/
theorem pageByte_eq_bind (s : State) (c : ChannelId) (pg : BitVec 16) (pos : Nat) (b : BufferId) :
    s.pageByte c pg pos b
      = ((s.buffer b).map Buffer.staging).bind fun m => if m.1 == c && m.2.1 == pg then cellAt m.2.2 pos else none := by
  unfold State.pageByte
  cases s.buffer b <;> rfl

theorem SameReads.overlayAt (h : SameReads s t) (c : ChannelId) (pg : BitVec 16) (pos : Nat) :
    t.overlayAt c pg pos = s.overlayAt c pg pos := by
  rw [overlayAt_eq, overlayAt_eq, h.openOrder]
  congr 1
  funext b
  rw [pageByte_eq_bind, pageByte_eq_bind, h.staging]

/-- With the stores left as well, every byte reads as before. -/
theorem SameReads.accepted (h : SameReads s t) (hs : ∀ c, t.store c = s.store c) (c : ChannelId) (pg : BitVec 16) (pos : Nat) :
    t.accepted c pg pos = s.accepted c pg pos := by
  rw [State.accepted, State.accepted, h.overlayAt, h.clears, hs]

/-! #### The shared operations -/

theorem sameReads_setBuffer (hx : s.buffer b = some x) (h : y.staging = x.staging) : SameReads s (s.setBuffer b (some y)) := by
  refine ⟨rfl, fun b' => ?_, fun c pg => by rw [State.setBuffer_channel]⟩
  rw [State.setBuffer_buffer]
  split
  next hb => rw [hb, hx, Option.map_some, Option.map_some, h]
  next => rfl

theorem sameReads_modifyBuffer (s : State) (b : BufferId) (f : Buffer → Buffer) (h : ∀ x, (f x).staging = x.staging) :
    SameReads s (s.modifyBuffer b f) := by
  unfold State.modifyBuffer
  split
  next x hx => exact sameReads_setBuffer hx (h x)
  next => exact .refl s

theorem sameReads_setChannel {ch : Channel}
    (h : ∀ pg, ch.queue.any (Op.clears pg) = (s.channel c).queue.any (Op.clears pg)) : SameReads s (s.setChannel c ch) := by
  refine ⟨State.setChannel_openOrder .., fun b => by rw [State.setChannel_buffer], fun c' pg => ?_⟩
  rw [State.setChannel_channel]
  split
  next hc => rw [hc, h]
  next => rfl

theorem sameReads_slots (s : State) (slots : Vector (Option Slot) 8) : SameReads s { s with slots := slots } :=
  sameReads_of_eq rfl (fun _ => rfl) fun c => by cases c <;> rfl

theorem sameReads_sealList (s : State) (bs : List BufferId) : SameReads s { s with sealList := bs } :=
  sameReads_of_eq rfl (fun _ => rfl) fun c => by cases c <;> rfl

theorem sameReads_append (e : Event) (s : State) : SameReads s (s.append e) :=
  sameReads_of_eq (append_openOrder e s) (append_buffer e s) (append_channel e s)

theorem PortsOnly.sameReads (h : PortsOnly s t) : SameReads s t := by
  rw [h]
  exact sameReads_of_eq rfl (fun _ => rfl) fun c => by cases c <;> rfl

theorem sameReads_setCounters (s : State) (k : PartCounters) : SameReads s (s.setCounters k) :=
  sameReads_of_eq rfl (fun _ => rfl) fun c => by cases c <;> rfl

theorem sameReads_setGrant (s : State) (w : WindowId) (g : Option Grant) : SameReads s (s.setGrant w g) :=
  sameReads_of_eq rfl (fun _ => rfl) fun c => by cases c <;> rfl

theorem sameReads_elapse (n : Micros) (s : State) : SameReads s (s.elapse n) := by
  refine ⟨rfl, fun b => ?_, fun c pg => by rw [elapse_channel]; rfl⟩
  rw [elapse_buffer, Option.map_map]
  rfl

theorem sameReads_slotAttempt (s : State) (i : SlotId) (n : BitVec 8) : SameReads s (s.slotAttempt i n) := by
  unfold State.slotAttempt
  split
  next => exact sameReads_slots ..
  next => exact .refl s

theorem sameReads_attemptStarted (s : State) (op : Op) (n : BitVec 8) : SameReads s (s.attemptStarted op n) := by
  unfold State.attemptStarted
  split
  next => exact sameReads_slotAttempt ..
  next => exact sameReads_modifyBuffer s _ _ fun _ => rfl
  next => exact .refl s

theorem sameReads_startHead (s : State) (c : ChannelId) : SameReads s (s.startHead c) := by
  cases hq : (s.channel c).queue with
  | nil => rw [State.startHead, hq]; exact .refl s
  | cons op rest =>
    rw [startHead_cons hq]
    refine (sameReads_setChannel fun pg => ?_).trans (sameReads_attemptStarted ..)
    rw [hq]
    rfl

/-- An operation that is no CLEAR joins a queue. -/
theorem sameReads_appendOp {k : OpKind} (hk : ∀ pg, Op.clears pg ⟨k, 0⟩ = false) (s : State) (c : ChannelId) :
    SameReads s (s.appendOp c k) := by
  have hjoin : SameReads s (s.setChannel c { s.channel c with queue := (s.channel c).queue ++ [⟨k, 0⟩] }) :=
    sameReads_setChannel fun pg => by simp [hk]
  simp only [State.appendOp]
  split
  next => exact hjoin.trans (sameReads_startHead ..)
  next => exact hjoin

theorem sameReads_moveToQueue (c : ChannelId) (hx : s.buffer b = some x) : SameReads s (s.moveToQueue c b x) := by
  have htaken : SameReads s (s.setBuffer b (some { x with phase := .queued, attempts := 0 })) := sameReads_setBuffer hx rfl
  rw [moveToQueue_eq]
  exact (htaken.trans (sameReads_sealList _ _)).trans (sameReads_appendOp (fun _ => rfl) ..)

theorem Moves.sameReads (h : Moves c s t) : SameReads s t := by
  induction h with
  | stuck s => exact .refl s
  | move b x hm _ ih =>
    obtain ⟨-, -, -, -, hx, -⟩ := movable_some hm
    exact (sameReads_moveToQueue _ hx).trans ih

theorem sameReads_tryEnqueue (s : State) (c : ChannelId) : SameReads s (s.tryEnqueue c) := (moves_tryEnqueue s c).sameReads

theorem sameReads_holdBuffer (s : State) (b : BufferId) (cause : HoldCause) : SameReads s (s.holdBuffer b cause) := by
  have hheld : SameReads s (s.modifyBuffer b fun x => { x with phase := .held cause }) := sameReads_modifyBuffer s b _ fun _ => rfl
  exact hheld.trans (sameReads_slots _ _)

theorem sameReads_listSealed (hx : s.buffer b = some x) (h : y.staging = x.staging) : SameReads s (s.listSealed b y) := by
  have hsealed : SameReads s (s.setBuffer b (some { y with phase := .sealed })) := sameReads_setBuffer hx h
  exact hsealed.trans (sameReads_sealList _ _)

theorem sameReads_sealBuffer (s : State) (b : BufferId) : SameReads s (s.sealBuffer b) := by
  unfold State.sealBuffer
  split
  next x hx =>
    split
    next =>
      split
      next => exact (sameReads_listSealed hx rfl).trans (sameReads_tryEnqueue ..)
      next => exact sameReads_holdBuffer ..
    next => exact .refl s
  next => exact .refl s

/-- A change repeated over a list. -/
theorem sameReads_foldl {α : Type} {f : State → α → State} (h : ∀ s a, SameReads s (f s a)) (l : List α) (s : State) :
    SameReads s (l.foldl f s) := by
  induction l generalizing s with
  | nil => exact .refl s
  | cons a l ih => exact (h s a).trans (ih _)

theorem sameReads_sealAllOf (bs : List BufferId) (s : State) : SameReads s (s.sealAllOf bs) :=
  sameReads_foldl sameReads_sealBuffer bs s

theorem sameReads_forgetGrant (s : State) (w : WindowId) : SameReads s (s.forgetGrant w) := by
  refine ⟨rfl, fun b => ?_, fun c pg => by cases c <;> rfl⟩
  rw [forgetGrant_buffer, Option.map_map]
  rfl

theorem sameReads_endGrant (s : State) (w : WindowId) : SameReads s (s.endGrant w) :=
  ((sameReads_setGrant s w none).trans (sameReads_sealAllOf ..)).trans (sameReads_forgetGrant ..)

theorem sameReads_revokeGrant (s : State) (w : WindowId) (cause : RevokeCause) : SameReads s (s.revokeGrant w cause) := by
  unfold State.revokeGrant
  split
  next => exact (sameReads_endGrant ..).trans (sameReads_append ..)
  next => exact .refl s

theorem sameReads_returnSealed (s : State) (b : BufferId) : SameReads s (s.returnSealed b) := by
  unfold State.returnSealed
  split
  next x hx => exact sameReads_listSealed hx rfl
  next => exact .refl s

theorem sameReads_retryBuffer (hx : s.buffer b = some x) : SameReads s (s.retryBuffer b x) := by
  have hback : SameReads s (s.setBuffer b (some { x with phase := .sealed, attempts := 0 })) := sameReads_setBuffer hx rfl
  exact (hback.trans (sameReads_sealList _ _)).trans (sameReads_tryEnqueue ..)

theorem sameReads_bringOnline (s : State) (c : ChannelId) : SameReads s (s.bringOnline c) := by
  have honline : SameReads s (s.setChannel c { s.channel c with streak := 0, state := .idle }) := sameReads_setChannel fun _ => rfl
  exact ((honline.trans (sameReads_foldl sameReads_returnSealed _ _)).trans (sameReads_tryEnqueue ..)).trans (sameReads_append ..)

theorem sameReads_used (s : State) (w : WindowId) : SameReads s (s.used w) := by
  unfold State.used State.useGrant
  split
  next =>
    split
    next => exact sameReads_setGrant ..
    next => exact .refl s
  next => exact .refl s

theorem sameReads_pressureSeal (s : State) : SameReads s s.pressureSeal := by
  unfold State.pressureSeal
  split
  next => exact sameReads_sealBuffer ..
  next => exact .refl s

theorem sameReads_setSlot (s : State) (i : SlotId) (x : Option Slot) : SameReads s (s.setSlot i x) := sameReads_slots ..

/-- A channel of a BUSY state whose head is gone goes on. -/
theorem sameReads_afterLeaving (hb : (s.channel c).state = .busy) : SameReads s (s.afterLeaving c) := by
  by_cases hq : ((s.tryEnqueue c).channel c).queue = []
  · rw [afterLeaving_idle hb hq]
    exact sameReads_setChannel fun _ => rfl
  · rw [afterLeaving_busy hb hq]
    exact (sameReads_tryEnqueue ..).trans (sameReads_startHead ..)

end SameReads

end Sys2Proof.Machine

/-! ### Between acceptances no byte changes (R41, R45, R59, R79, R92) -/

namespace Sys2Proof.Machine

section Others
variable {s t : State} {i : Instr}

theorem sameReads_allocate (s : State) (i : SlotId) (q : ReqId) (k : SlotWork) : SameReads s (s.allocate i q k) :=
  sameReads_of_eq rfl (fun _ => rfl) fun c => allocate_channel i k c

theorem sameReads_setWindow (s : State) (w : WindowId) (e : WindowEntry) : SameReads s (s.setWindow w e) :=
  sameReads_of_eq rfl (fun _ => rfl) fun c => by cases c <;> rfl

/-- The services other than those the statement names leave what every byte reads as. -/
theorem Work.sameReads (h : Work s i t)
    (hi : ∀ p, i ∉ [.write p, .clear p, .bufferDiscard p, .channelOffline p, .restart p]) : SameReads s t := by
  cases h with
  | same => exact .refl s
  | busy | overlayHit => exact sameReads_setCounters ..
  | deferred =>
    exact ((sameReads_allocate ..).trans
      (sameReads_appendOp (k := .fetch ..) (fun _ => rfl) ..)).trans (sameReads_setCounters ..)
  | merged p | opened p | pressure p | cleared p | discarded p | wentOffline p | restarted p => exact absurd (hi p) (by simp)
  | collected => exact sameReads_setSlot ..
  | granted => exact sameReads_setGrant ..
  | released => exact sameReads_endGrant ..
  | flushed | sealedAll => exact sameReads_sealAllOf ..
  | waited => exact (sameReads_sealAllOf ..).trans (sameReads_allocate ..)
  | loaded | windowCleared => exact (sameReads_setWindow ..).trans (sameReads_revokeGrant ..)
  | revoked => exact sameReads_revokeGrant ..
  | retried p b x hx => exact sameReads_retryBuffer hx
  | cameOnline => exact sameReads_bringOnline ..
  | removed => unfold State.removeRecords; split <;> exact sameReads_of_eq rfl (fun _ => rfl) fun c => by cases c <;> rfl
  | zeroed | managersSet => exact sameReads_of_eq rfl (fun _ => rfl) fun c => by cases c <;> rfl
  | paramSet =>
    split
    next => exact sameReads_of_eq rfl (fun _ => rfl) fun c => by cases c <;> rfl
    next => unfold State.retarget; split <;> exact sameReads_of_eq rfl (fun _ => rfl) fun c => by cases c <;> rfl

/-- So do the events other than completions that are taken and the timeout. -/
theorem Effect.sameReads (h : Effect s i t) (hno : ∀ c, i ≠ .operationTimerExpiry c)
    (hc : ∀ c status bytes op, i = .storeCompletion c (s.channel c).number status bytes → (s.channel c).inProgress ≠ some op) :
    SameReads s t := by
  cases h with
  | nothing => exact .refl s
  | arrival p f =>
    rcases arrive_or p f s with ⟨q, hq⟩ | ⟨q, hq⟩
    · rw [hq]; exact (portsOnly_setPort ..).sameReads
    · rw [hq]; exact (portsOnly_setPort ..).sameReads.trans (sameReads_append ..)
  | linkUp | linkDown => exact (portsOnly_setPort ..).sameReads.trans (sameReads_append ..)
  | transmissionEnd => exact (portsOnly_setPort ..).sameReads
  | completion c status bytes op hop => exact absurd hop (hc c status bytes op rfl)
  | late => exact (sameReads_setCounters ..).trans (sameReads_append ..)
  | timeout c => exact absurd rfl (hno c)
  | idleExpiry | limitExpiry => exact (sameReads_elapse ..).trans (sameReads_sealBuffer ..)
  | holdExpiry =>
    exact (((sameReads_elapse ..).trans (sameReads_setSlot ..)).trans (sameReads_setCounters ..)).trans (sameReads_append ..)
  | grantExpiry => exact ((sameReads_elapse ..).trans (sameReads_endGrant ..)).trans (sameReads_append ..)

end Others

theorem KeepsStores.store {s t : State} (h : KeepsStores s t) (c : ChannelId) : t.store c = s.store c := by
  cases c
  · exact h.store0
  · exact h.store1

/-! #### The bytes of a page in the store -/

theorem pageByte_same (s : State) {x : Buffer} {b : BufferId} (hx : s.buffer b = some x) (pos : Nat) :
    s.pageByte x.channel x.page pos b = cellAt x.staged pos := by
  have hon : x.isOn x.channel x.page = true := (isOn_iff ..).mpr ⟨rfl, rfl⟩
  simp only [State.pageByte, hx, hon, if_true]

theorem pageByte_other (s : State) {x : Buffer} {b : BufferId} (hx : s.buffer b = some x) {c : ChannelId} {pg : BitVec 16} (pos : Nat)
    (h : ¬ (x.channel = c ∧ x.page = pg)) : s.pageByte c pg pos b = none := by
  refine pageByte_eq_none fun y hy hc hp => ?_
  cases hx.symm.trans hy
  exact absurd ⟨hc, hp⟩ h

/-- No byte is listed beyond the page. -/
theorem cellAt_eq_none_of_page {m : Cells} (h : m.all (fun c => c.1 < Config.pageBytes) = true) {j : Nat} (hj : 256 ≤ j) :
    cellAt m j = none := by
  induction m with
  | nil => rfl
  | cons a m ih =>
    obtain ⟨k, v⟩ := a
    simp only [List.all_cons, Bool.and_eq_true, decide_eq_true_eq, Config.pageBytes] at h
    rw [cellAt, if_neg (by omega)]
    exact ih h.2

/-- A page's bytes laid over the store reach that page alone. -/
theorem cellAt_layPage (m : Cells) {staged : Cells} (hwf : cellsWf staged)
    (hpage : staged.all (fun c => c.1 < Config.pageBytes) = true) (pg pg' : BitVec 16) {pos : Nat} (hpos : pos < 256) :
    cellAt (layCells m (pageStart pg) staged) (pageStart pg' + pos)
      = (if pg = pg' then cellAt staged pos else none).or (cellAt m (pageStart pg' + pos)) := by
  rw [cellAt_layCells _ _ _ hwf]
  by_cases h : pg = pg'
  · subst h
    rw [if_pos (Nat.le_add_right ..), if_pos rfl, Nat.add_sub_cancel_left]
  · have hne : pg.toNat ≠ pg'.toNat := fun he => h (BitVec.eq_of_toNat_eq he)
    rw [if_neg h, Option.none_or]
    split
    next hle =>
      simp only [pageStart, Config.pageBytes] at hle ⊢
      rw [cellAt_eq_none_of_page hpage (by omega), Option.none_or]
    next => rfl

/-- A cleared sector's bytes reach the pages of that sector alone. -/
theorem cellAt_fillSector (m : Cells) (sector : BitVec 12) (pg : BitVec 16) {pos : Nat} (hpos : pos < 256) :
    cellAt (fillCells m (sectorStart sector) (Config.sectorPages * Config.pageBytes) 0xFF#8) (pageStart pg + pos)
      = if sector = sectorOf pg then some 0xFF#8 else cellAt m (pageStart pg + pos) := by
  have hiff : sector = sectorOf pg ↔ sectorStart sector ≤ pageStart pg + pos
      ∧ pageStart pg + pos < sectorStart sector + Config.sectorPages * Config.pageBytes := by
    rw [← BitVec.toNat_inj, sectorOf_toNat]
    simp only [sectorStart, pageStart, Config.sectorPages, Config.pageBytes]
    omega
  rw [cellAt_fillCells]
  simp only [hiff]

/-! #### The OK completion of a PROGRAM frees the oldest buffer of its page (R37, R41) -/

section Completed
variable {s t : State} {b : BufferId} {x : Buffer} {c : ChannelId} {op : Op} {rest : List Op}

theorem findSome?_congr_of_mem {α β : Type} {f g : α → Option β} {l : List α} (h : ∀ a ∈ l, f a = g a) :
    l.findSome? f = l.findSome? g := by
  induction l with
  | nil => rfl
  | cons a l ih => rw [List.findSome?_cons, List.findSome?_cons, h a (List.mem_cons_self ..), ih fun b hb => h b (List.mem_cons_of_mem _ hb)]

/-- When a buffer that is the oldest of its page becomes FREE, its bytes stay below those that are left. -/
theorem overlayAt_freed (hn : s.openOrder.Nodup) (hb : b ∈ s.openOrder) (hx : s.buffer b = some x)
    (hold : ∀ a z, [a, b].Sublist s.openOrder → s.buffer a = some z → ¬ (x.channel = z.channel ∧ x.page = z.page))
    (hopen : t.openOrder = s.openOrder.filter (· ≠ b)) (hbuf : ∀ b', b' ≠ b → t.buffer b' = s.buffer b') (c : ChannelId)
    (pg : BitVec 16) (pos : Nat) : s.overlayAt c pg pos = (t.overlayAt c pg pos).or (s.pageByte c pg pos b) := by
  obtain ⟨older, newer, hsplit⟩ := List.append_of_mem hb
  rw [hsplit] at hn
  obtain ⟨-, hnewer, hdisjoint⟩ := List.nodup_append.mp hn
  have hbytes (l : List BufferId) (hl : b ∉ l) : l.reverse.findSome? (t.pageByte c pg pos) = l.reverse.findSome? (s.pageByte c pg pos) := by
    refine findSome?_congr_of_mem fun b' hb' => ?_
    have hne : b' ≠ b := fun h => hl (h ▸ List.mem_reverse.mp hb')
    rw [State.pageByte, State.pageByte, hbuf b' hne]
  have holder : older.reverse.findSome? (s.pageByte c pg pos) = none ∨ s.pageByte c pg pos b = none := by
    by_cases hon : x.channel = c ∧ x.page = pg
    · obtain ⟨rfl, rfl⟩ := hon
      refine .inl (List.findSome?_eq_none_iff.mpr fun a ha => pageByte_eq_none fun z hz hzc hzp => ?_)
      have hpair : [a, b].Sublist s.openOrder := by
        rw [hsplit]
        exact (List.singleton_sublist.mpr (List.mem_reverse.mp ha)).append (List.singleton_sublist.mpr (List.mem_cons_self ..))
      exact absurd ⟨hzc.symm, hzp.symm⟩ (hold a z hpair hz)
    · exact .inr (pageByte_other s hx pos hon)
  rw [overlayAt_eq, overlayAt_eq, hopen, hsplit, filter_ne_eq hn, List.reverse_append, List.reverse_append, List.findSome?_append, List.findSome?_append,
    hbytes newer (List.nodup_cons.mp hnewer).1, hbytes older fun h => hdisjoint b h b (List.mem_cons_self ..) rfl,
    List.reverse_cons, List.findSome?_append]
  cases hbyte : s.pageByte c pg pos b with
  | none => simp [hbyte]
  | some v =>
    have hnone := holder.resolve_right (by simp [hbyte])
    simp [hbyte, hnone]

theorem leftByHead_queue (hq : (s.channel c).queue = op :: rest) (c' : ChannelId) :
    ((s.leftByHead c).channel c').queue = if c' = c then rest else (s.channel c').queue := by
  rw [State.leftByHead, State.setChannel_channel]
  split
  next => rw [hq]; rfl
  next => rfl

/-- An operation that is no CLEAR leaves its queue. -/
theorem sameReads_leftByHead (hq : (s.channel c).queue = op :: rest) (hk : ∀ pg, op.clears pg = false) :
    SameReads s (s.leftByHead c) := by
  refine sameReads_setChannel fun pg => ?_
  rw [hq, List.tail_cons, List.any_cons, hk, Bool.false_or]

/-- The OK completion of a FETCH. -/
theorem sameReads_fetchSucceeded (s : State) (i : SlotId) (n : BitVec 8) (bytes : List Byte) :
    SameReads s (s.fetchSucceeded i n bytes) := by
  unfold State.fetchSucceeded
  split
  next =>
    split
    next => exact sameReads_setSlot ..
    next => exact .refl s
  next => exact .refl s

theorem fetchSucceeded_channel (s : State) (i : SlotId) (n : BitVec 8) (bytes : List Byte) (c : ChannelId) :
    (s.fetchSucceeded i n bytes).channel c = s.channel c := by
  unfold State.fetchSucceeded
  split
  next =>
    split
    next => exact State.setSlot_channel ..
    next => rfl
  next => rfl

theorem fetchSucceeded_store (s : State) (i : SlotId) (n : BitVec 8) (bytes : List Byte) (c : ChannelId) :
    (s.fetchSucceeded i n bytes).store c = s.store c := by
  unfold State.fetchSucceeded
  split
  next =>
    split
    next => cases c <;> rfl
    next => rfl
  next => rfl

/-- Behind a PROGRAM of its page no CLEAR waits (R92). -/
theorem QueueLaw.no_clear_behind {gap : Gap} (h : QueueLaw gap s) {pg : BitVec 16} (hq : (s.channel c).queue = op :: rest)
    (hk : op.kind = .program pg b) : (s.channel c).queue.any (Op.clears pg) = false := by
  have hclears := h.clears c
  rw [hq] at hclears ⊢
  obtain ⟨hhead, -⟩ := List.pairwise_cons.mp hclears
  rw [List.any_eq_false]
  intro a ha
  rcases List.mem_cons.mp ha with rfl | ha
  · simp [Op.clears, hk]
  · have hprecede := hhead a ha
    cases hka : a.kind with
    | clear sector q =>
      simp only [Op.mayPrecede, hka, Op.programsUnder, hk, Bool.not_eq_true', beq_eq_false_iff_ne] at hprecede
      simpa [Op.clears, hka] using hprecede.symm
    | fetch | program => simp [Op.clears, hka]

/-- The state after the OK completion of the PROGRAM of b. -/
def State.programmed (s : State) (c : ChannelId) (b : BufferId) (x : Buffer) : State :=
  (((s.leftByHead c).setStore c (layCells (s.store c) (pageStart x.page) x.staged)).programSucceeded b).countProgram

theorem programmed_buffer (b' : BufferId) : (s.programmed c b x).buffer b' = if b' = b then none else s.buffer b' := by
  change (((s.leftByHead c).setStore c _).setBuffer b none).buffer b' = _
  rw [State.setBuffer_buffer, State.setStore_buffer, State.leftByHead, State.setChannel_buffer]

theorem programmed_openOrder : (s.programmed c b x).openOrder = s.openOrder.filter (· ≠ b) := by
  change ((s.leftByHead c).setStore c _).openOrder.filter _ = _
  rw [State.setStore_openOrder, State.leftByHead, State.setChannel_openOrder]

theorem programmed_channel (c' : ChannelId) : (s.programmed c b x).channel c' = (s.leftByHead c).channel c' := by
  cases c <;> cases c' <;> rfl

theorem programmed_store (c' : ChannelId) :
    (s.programmed c b x).store c' = if c' = c then layCells (s.store c) (pageStart x.page) x.staged else s.store c' := by
  cases c <;> cases c' <;> rfl

theorem accepted_programmed (h : Core none s) (hq : (s.channel c).queue = op :: rest) {pg : BitVec 16}
    (hk : op.kind = .program pg b) (hx : s.buffer b = some x) (hw : x.onWay = true) (hc : x.channel = c) (hp : x.page = pg)
    (c' : ChannelId) (pg' : BitVec 16) {pos : Nat} (hpos : pos < 256) :
    (s.programmed c b x).accepted c' pg' pos = s.accepted c' pg' pos := by
  subst hc hp
  obtain ⟨hn, hlive, -, -⟩ := h.pool.lists
  have hov := overlayAt_freed hn ((hlive b).mpr (by rw [hx]; rfl)) hx (fun a z hab hz => h.pool.no_older hx hw hab hz)
    (programmed_openOrder (c := x.channel) (x := x)) (fun b' hb' => by rw [programmed_buffer, if_neg hb']) c' pg' pos
  have hclears : ((s.programmed x.channel b x).channel c').queue.any (Op.clears pg') = (s.channel c').queue.any (Op.clears pg') := by
    rw [programmed_channel]
    exact (sameReads_leftByHead hq fun pg => by simp [Op.clears, hk]).clears c' pg'
  obtain ⟨hranges, hwf⟩ := h.pool.ranges b x hx
  have hpage : x.staged.all (fun c => c.1 < Config.pageBytes) = true := by
    simp only [Buffer.inRanges, Bool.and_eq_true] at hranges
    exact hranges.1.1.1.2
  rw [State.accepted, State.accepted, hov, hclears, programmed_store, Option.or_assoc]
  congr 1
  by_cases hcc : c' = x.channel
  · subst hcc
    rw [if_pos rfl, cellAt_layPage _ hwf hpage _ _ hpos]
    by_cases hpg : x.page = pg'
    · subst hpg
      have hnone := h.queues.no_clear_behind hq hk
      rw [hnone, pageByte_same s hx, if_pos rfl]
      rfl
    · rw [pageByte_other s hx pos (fun h => hpg h.2), if_neg hpg, Option.none_or, Option.none_or]
  · rw [if_neg hcc, pageByte_other s hx pos (fun h => hcc h.1.symm), Option.none_or]

/-- The OK completion of a CLEAR: what it had promised is in the store. -/
theorem accepted_cleared (hq : (s.channel c).queue = op :: rest) {sector : BitVec 12} {q : ReqId} (hk : op.kind = .clear sector q)
    (c' : ChannelId) (pg : BitVec 16) {pos : Nat} (hpos : pos < 256) :
    ((s.leftByHead c).setStore c (takenAfter (s.store c) (.clear sector))).accepted c' pg pos = s.accepted c' pg pos := by
  have hov : ((s.leftByHead c).setStore c (takenAfter (s.store c) (.clear sector))).overlayAt c' pg pos = s.overlayAt c' pg pos := by
    cases c <;> rfl
  rw [State.accepted, State.accepted, hov, State.setStore_channel, leftByHead_queue hq, State.setStore_store]
  congr 1
  split
  next hcc =>
    subst hcc
    rw [takenAfter, cellAt_fillSector _ _ _ hpos, hq, List.any_cons]
    have hop : op.clears pg = (sector == sectorOf pg) := by simp only [Op.clears, hk]
    rw [hop]
    by_cases hsector : sector = sectorOf pg
    · simp [hsector]
    · simp [hsector]
  next => rw [State.leftByHead, State.setChannel_store]

/-- An OK completion that a BUSY channel takes changes no byte. -/
theorem accepted_headSucceeded (h : Core none s) (hq : (s.channel c).queue = op :: rest) (hb : (s.channel c).state = .busy)
    (bytes : List Byte) (c' : ChannelId) (pg : BitVec 16) {pos : Nat} (hpos : pos < 256) :
    (s.headSucceeded c op bytes).accepted c' pg pos = s.accepted c' pg pos := by
  have hstore (c' : ChannelId) : (s.leftByHead c).store c' = s.store c' := State.setChannel_store ..
  have hleft : ((s.leftByHead c).channel c).state = .busy := by rw [State.leftByHead, State.setChannel_channel_self]; exact hb
  have hfits := h.queues.fits c
  rw [hq] at hfits
  obtain ⟨hfit, -⟩ := hfits
  rw [headSucceeded_eq]
  generalize hu : (s.leftByHead c).opSucceeded c op.kind (s.channel c).number bytes = u
  have hdone : (u.channel c).state = .busy ∧ u.accepted c' pg pos = s.accepted c' pg pos := by
    subst hu
    cases hk : op.kind with
    | fetch pg' o n i =>
      simp only [State.opSucceeded, State.requestOf, takenAfter, State.setStore_same]
      have hreads := (sameReads_leftByHead hq fun pg => by simp [Op.clears, hk]).trans (sameReads_fetchSucceeded _ i (s.channel c).number bytes)
      refine ⟨?_, hreads.accepted (fun c' => (fetchSucceeded_store ..).trans (hstore c')) ..⟩
      rw [fetchSucceeded_channel, hleft]
    | program pg' b =>
      obtain ⟨-, x, hx, hc, hp, -, hphase⟩ := (opFits_program_iff hk).mp hfit
      have hbuffer : (s.leftByHead c).buffer b = some x := (State.setChannel_buffer ..).trans hx
      have hw : x.onWay = true := (onWay_iff x).mpr (.inr hphase)
      have hprogrammed : (s.leftByHead c).opSucceeded c (.program pg' b) (s.channel c).number bytes = s.programmed c b x := by
        rw [opSucceeded_program hbuffer, hstore, State.programmed, hp]
      rw [hprogrammed, programmed_channel]
      exact ⟨hleft, accepted_programmed h hq hk hx hw hc hp c' pg hpos⟩
    | clear sector q =>
      have hcleared := accepted_cleared hq hk c' pg hpos
      rw [← hstore c] at hcleared
      exact ⟨by rw [opSucceeded_clear, State.setStore_channel, hleft], hcleared⟩
  obtain ⟨hbusy, haccepted⟩ := hdone
  rw [← haccepted]
  have hkeeps := sameStores_afterLeaving u c
  refine (sameReads_afterLeaving hbusy).accepted (fun c' => ?_) ..
  cases c'
  · exact hkeeps.store0
  · exact hkeeps.store1

end Completed

theorem takeCompletion_ok {s : State} {c : ChannelId} {op : Op} {bytes : List Byte} (h : op.kind.formFits bytes = true) :
    s.takeCompletion c op .ok bytes = s.headSucceeded c op bytes := if_pos h

/-- The operation in progress is the head of its queue. -/
theorem queue_of_inProgress {s : State} {c : ChannelId} {op : Op} (h : (s.channel c).inProgress = some op) :
    ∃ rest, (s.channel c).queue = op :: rest := by
  unfold Channel.inProgress at h
  split at h
  next => exact List.head?_eq_some_iff.mp h
  next => cases h

theorem settleRestart_none {s : State} (h : s.restart = none) : s.settleRestart = s := by simp only [State.settleRestart, h]

theorem core_of_lawful {s : State} (h : s.lawful) : Core none s := by
  obtain ⟨-, -, -, -, -, -, -, -, -, hslots, hchannels, hqueues, hbuffers, hlists, hoccupancy, horder, hholds, -, hclears, -, -⟩ := h
  exact core_iff.mpr ⟨hslots, hchannels, hqueues, hbuffers, hlists, hoccupancy, horder, hholds, hclears⟩

/-- Settles O58: what the other commands leave decides every byte, and the OK completions put into the store what was staged or
promised. -/
theorem otherStepsChangeNoByte : Obligations.OtherStepsChangeNoByte := by
  intro s t i hl hr ht hi hreset htimer hfail hok c pg pos hpos
  cases answers_of_exec ht with
  | nothing => rfl
  | taken p serve f hs ho =>
    have hcommand := ho.2.2.2.2
    have hreads := ((portsOnly_beginTaking s p).sameReads.trans
      ((work_of_service _ hs hcommand).sameReads hi)).trans (portsOnly_afterTaking p f (serve f (s.beginTaking p))).sameReads
    exact hreads.accepted (keepsStores_taken hs ho).store c pg pos
  | event u hs hu =>
    have hplaced (v : State) : v.placeNotice.accepted c pg pos = v.accepted c pg pos :=
      (portsOnly_placeNotice v).sameReads.accepted (portsOnly_placeNotice v).keepsStores.store c pg pos
    by_cases hcompletion : ∃ c status bytes op, i = .storeCompletion c (s.channel c).number status bytes
        ∧ (s.channel c).inProgress = some op
    · obtain ⟨c', status, bytes, op, rfl, hop⟩ := hcompletion
      obtain ⟨hbusy, hfit⟩ : (s.channel c').state = .busy ∧ op.kind.formFits bytes = true := by
        cases status with
        | ok => exact hok c' bytes op rfl hop
        | fail => exact absurd rfl (hfail c' bytes)
      obtain rfl : status = .ok := by
        cases status with
        | ok => rfl
        | fail => exact absurd rfl (hfail c' bytes)
      obtain ⟨rest, hq⟩ := queue_of_inProgress hop
      have htaken := (exec_storeCompletion_taken hs hop .ok bytes).symm.trans ht
      rw [takeCompletion_ok hfit] at htaken
      have hrestart : (s.headSucceeded c' op bytes).restart = none := (inside_headSucceeded ..).restart.trans hr
      rw [settleRestart_none hrestart] at htaken
      rw [← Host.Outcome.next.inj htaken, hplaced, accepted_headSucceeded (core_of_lawful hl) hq hbusy bytes c pg hpos]
    · rw [hplaced]
      refine (hu.sameReads htimer fun c' status bytes op hci hop => hcompletion ⟨c', status, bytes, op, hci, hop⟩).accepted
        (hu.keepsStores ?_).store c pg pos
      rintro ⟨c', bytes, op, hci, hop, -⟩
      exact hcompletion ⟨c', .ok, bytes, op, hci, hop⟩
  | pinReset h => exact absurd h hreset
  | deasserted =>
    exact (sameReads_of_eq rfl (fun _ => rfl) fun c => by cases c <;> rfl).accepted (fun c => by cases c <;> rfl) c pg pos

end Sys2Proof.Machine

/-! ### An accepted WRITE or CLEAR changes exactly its bytes (R29, R59, R92) -/

namespace Sys2Proof.Machine

section Frame
variable {s t : State} {gap : Gap}

/-- Ports and notice are no part of the laws of pool, slots, queues and channels. -/
theorem PortsOnly.poolLaw (h : PortsOnly s t) (hs : PoolLaw s) : PoolLaw t := by
  rw [h]
  exact ⟨hs.ranges, hs.lists, hs.order, hs.room, hs.holds⟩

theorem PortsOnly.core (h : PortsOnly s t) (hs : Core gap s) : Core gap t := by
  have hpool := h.poolLaw hs.pool
  rw [h] at hpool ⊢
  exact ⟨hpool, hs.slots, ⟨hs.queues.fits, hs.queues.buffersOnce, hs.queues.slotsOnce, hs.queues.owned, hs.queues.awaited,
    hs.queues.clears⟩, hs.channels⟩

end Frame

section Accepted
variable {s t : State} {b : BufferId} {x : Buffer} {c : ChannelId} {pg : BitVec 16} {o : Nat} {bytes : List Byte}
  {q : ReqId} {gw : Option WindowId}

/-- The byte a WRITE puts at a position of a page. -/
def writtenAt (c : ChannelId) (pg : BitVec 16) (o : Nat) (bytes : List Byte) (c' : ChannelId) (pg' : BitVec 16) (pos : Nat) :
    Option Byte :=
  if c' = c ∧ pg' = pg ∧ o ≤ pos then bytes[pos - o]? else none

/-- The overlay with the bytes of a WRITE on top. -/
def Overlaid (s t : State) (c : ChannelId) (pg : BitVec 16) (o : Nat) (bytes : List Byte) : Prop :=
  ∀ c' pg' pos, t.overlayAt c' pg' pos = (writtenAt c pg o bytes c' pg' pos).or (s.overlayAt c' pg' pos)

/-- The overlay of a page, from one of its buffers on. -/
theorem overlayAt_split {older newer : List BufferId} (h : t.openOrder = older ++ b :: newer) (c : ChannelId) (pg : BitVec 16)
    (pos : Nat) : t.overlayAt c pg pos = (newer.reverse.findSome? (t.pageByte c pg pos)).or
      ((t.pageByte c pg pos b).or (older.reverse.findSome? (t.pageByte c pg pos))) := by
  rw [overlayAt_eq, h, List.reverse_append, List.findSome?_append, List.reverse_cons, List.findSome?_append, Option.or_assoc]
  simp

/-- Buffers that stay give the bytes they gave. -/
theorem findSome?_pageByte_congr {l : List BufferId} (h : ∀ a ∈ l, t.buffer a = s.buffer a) (c : ChannelId) (pg : BitVec 16)
    (pos : Nat) : l.reverse.findSome? (t.pageByte c pg pos) = l.reverse.findSome? (s.pageByte c pg pos) :=
  findSome?_congr_of_mem fun a ha => by rw [State.pageByte, State.pageByte, h a (List.mem_reverse.mp ha)]

theorem cellAt_merged (x : Buffer) (idle : Micros) (pos : Nat) :
    cellAt (x.merged q gw o bytes idle).staged pos = (if o ≤ pos then bytes[pos - o]? else none).or (cellAt x.staged pos) := by
  have hstaged : (x.merged q gw o bytes idle).staged = setCells x.staged o bytes := rfl
  rw [hstaged, cellAt_setCells]
  split <;> simp

theorem writtenAt_same (pos : Nat) : writtenAt c pg o bytes c pg pos = if o ≤ pos then bytes[pos - o]? else none := by
  simp [writtenAt]

theorem writtenAt_other {c' : ChannelId} {pg' : BitVec 16} (h : ¬ (c = c' ∧ pg = pg')) (pos : Nat) :
    writtenAt c pg o bytes c' pg' pos = none := if_neg fun hw => h ⟨hw.1.symm, hw.2.1.symm⟩

/-- A merge into the OPEN buffer of a page, the newest of its buffers (R26, R29). -/
theorem overlaid_merged (hs : PoolLaw s) (hx : s.buffer b = some x) (ho : x.isOpen = true) (idle : Micros) :
    Overlaid s (s.setBuffer b (some (x.merged q gw o bytes idle))) x.channel x.page o bytes := by
  intro c' pg' pos
  obtain ⟨hn, hlive, -, -⟩ := hs.lists
  obtain ⟨older, newer, hsplit⟩ := List.append_of_mem ((hlive b).mpr (by rw [hx]; rfl))
  have hsplit' : (s.setBuffer b (some (x.merged q gw o bytes idle))).openOrder = older ++ b :: newer := hsplit
  have hy : (s.setBuffer b (some (x.merged q gw o bytes idle))).buffer b = some _ := State.setBuffer_buffer_self ..
  have hstay {l : List BufferId} (hl : b ∉ l) : ∀ a ∈ l, (s.setBuffer b (some (x.merged q gw o bytes idle))).buffer a = s.buffer a :=
    fun a ha => by
      have hne : a ≠ b := fun h => hl (h ▸ ha)
      rw [State.setBuffer_buffer, if_neg hne]
  rw [hsplit] at hn
  obtain ⟨-, hnewer, hdisjoint⟩ := List.nodup_append.mp hn
  rw [overlayAt_split hsplit', overlayAt_split hsplit, findSome?_pageByte_congr (hstay (List.nodup_cons.mp hnewer).1),
    findSome?_pageByte_congr (hstay fun h => hdisjoint b h b (List.mem_cons_self ..) rfl)]
  by_cases hon : x.channel = c' ∧ x.page = pg'
  · obtain ⟨rfl, rfl⟩ := hon
    have hnone : newer.reverse.findSome? (s.pageByte x.channel x.page pos) = none := by
      refine List.findSome?_eq_none_iff.mpr fun a ha => pageByte_eq_none fun z hz hzc hzp => ?_
      have hpair : [b, a].Sublist s.openOrder := by
        rw [hsplit]
        exact (List.cons_sublist_cons.mpr (List.singleton_sublist.mpr (List.mem_reverse.mp ha))).trans (List.sublist_append_right ..)
      have hclosed := (List.pairwise_iff_forall_sublist.mp hs.order hpair x z hx hz hzc hzp).1
      rw [ho] at hclosed
      cases hclosed
    have hbyte : (s.setBuffer b (some (x.merged q gw o bytes idle))).pageByte x.channel x.page pos b = _ := pageByte_same _ hy pos
    rw [cellAt_merged] at hbyte
    rw [hnone, Option.none_or, Option.none_or, writtenAt_same, pageByte_same s hx, hbyte, Option.or_assoc]
  · rw [writtenAt_other hon, Option.none_or, pageByte_other s hx pos hon, pageByte_other _ hy pos hon]

/-- The buffer that opens for a page (R28). -/
def State.fresh (s : State) (c : ChannelId) (pg : BitVec 16) : Buffer :=
  ⟨c, pg, s.openCounter, [], 0, 0, .opened s.params.coalesceIdle (s.params.openLimit * Config.microsPerMilli), 0⟩

theorem openBuffer_buffer (s : State) (b : BufferId) (c : ChannelId) (pg : BitVec 16) (b' : BufferId) :
    (s.openBuffer b c pg).buffer b' = if b' = b then some (s.fresh c pg) else s.buffer b' := State.setBuffer_buffer ..

/-- A merge into a buffer just opened (R28, R29). -/
theorem overlaid_opened (hs : PoolLaw s) (hfree : s.buffer b = none) (idle : Micros) :
    Overlaid s ((s.openBuffer b c pg).setBuffer b (some ((s.fresh c pg).merged q gw o bytes idle))) c pg o bytes := by
  intro c' pg' pos
  obtain ⟨-, hlive, -, -⟩ := hs.lists
  have hnot : b ∉ s.openOrder := fun h => by
    have := (hlive b).mp h
    rw [hfree] at this
    cases this
  generalize ht : (s.openBuffer b c pg).setBuffer b (some ((s.fresh c pg).merged q gw o bytes idle)) = t
  have hopen : t.openOrder = s.openOrder ++ b :: [] := by rw [← ht]; rfl
  have hy : t.buffer b = some ((s.fresh c pg).merged q gw o bytes idle) := by rw [← ht]; exact State.setBuffer_buffer_self ..
  have hstay : ∀ a ∈ s.openOrder, t.buffer a = s.buffer a := fun a ha => by
    have hne : a ≠ b := fun h => hnot (h ▸ ha)
    rw [← ht, State.setBuffer_buffer, if_neg hne]
    exact (openBuffer_buffer ..).trans (if_neg hne)
  rw [overlayAt_split hopen, findSome?_pageByte_congr hstay, overlayAt_eq, List.reverse_nil, List.findSome?_nil, Option.none_or]
  congr 1
  by_cases hon : c = c' ∧ pg = pg'
  · obtain ⟨rfl, rfl⟩ := hon
    have hbyte : t.pageByte c pg pos b = _ := pageByte_same _ hy pos
    rw [hbyte, cellAt_merged, writtenAt_same]
    exact Option.or_none
  · rw [writtenAt_other hon]
    exact pageByte_other _ hy pos hon

/-- The bytes of a WRITE cut to n of them. -/
theorem writtenAt_take {n : Nat} (hn : n ≤ bytes.length) {c' : ChannelId} {pg' : BitVec 16} {pos : Nat} {rest : Option Byte} :
    (writtenAt c pg o (bytes.take n) c' pg' pos).or rest
      = if c' = c ∧ pg' = pg ∧ o ≤ pos ∧ pos < o + n then bytes[pos - o]? else rest := by
  unfold writtenAt
  by_cases hin : c' = c ∧ pg' = pg ∧ o ≤ pos
  · obtain ⟨hc, hp, ho⟩ := hin
    by_cases hlt : pos < o + n
    · have hsome : bytes[pos - o]? = some bytes[pos - o] := List.getElem?_eq_getElem (by omega)
      rw [if_pos ⟨hc, hp, ho⟩, if_pos ⟨hc, hp, ho, hlt⟩, List.getElem?_take_of_lt (by omega), hsome]
      rfl
    · rw [if_pos ⟨hc, hp, ho⟩, if_neg (fun h => hlt h.2.2.2), List.getElem?_take_eq_none (by omega)]
      rfl
  · rw [if_neg hin, if_neg (fun h => hin ⟨h.1, h.2.1, h.2.2.1⟩)]
    rfl

theorem SameReads.overlaid (h : Overlaid s t c pg o bytes) {u : State} (k : SameReads t u) : Overlaid s u c pg o bytes :=
  fun c' pg' pos => (k.overlayAt c' pg' pos).trans (h c' pg' pos)

/-- The seal of a full tag set and the rest of a merge change no byte. -/
theorem sameReads_mergeInto (hx : s.buffer b = some x) :
    SameReads (s.setBuffer b (some (x.merged q gw o bytes s.params.coalesceIdle))) (s.mergeInto b q gw o bytes) := by
  rw [mergeInto_eq hx]
  split
  next => exact sameReads_sealBuffer ..
  next => exact .refl _

theorem Overlaid.accepted (h : Overlaid s t c pg o bytes)
    (hclears : ∀ c pg, (t.channel c).queue.any (Op.clears pg) = (s.channel c).queue.any (Op.clears pg))
    (hs : ∀ c, t.store c = s.store c) (c' : ChannelId) (pg' : BitVec 16) (pos : Nat) :
    t.accepted c' pg' pos = (writtenAt c pg o bytes c' pg' pos).or (s.accepted c' pg' pos) := by
  rw [State.accepted, State.accepted, h, hclears, hs, Option.or_assoc]

/-- The staging pool's part of a WRITE: accepted, with exactly its bytes changed, or BUSY (R27). -/
theorem writePool_accepted (hs : PoolLaw s) (q : ReqId) (gw : Option WindowId) (c : ChannelId) (pg : BitVec 16) (o : Nat)
    (bytes : List Byte) :
    ((s.writePool q gw c pg o bytes).2 = .ack bytes.length ∧ ∀ c' pg' pos, (s.writePool q gw c pg o bytes).1.accepted c' pg' pos
        = (writtenAt c pg o bytes c' pg' pos).or (s.accepted c' pg' pos))
      ∨ (s.writePool q gw c pg o bytes).2 = .refuse .busy
        ∧ ∀ c' pg' pos, (s.writePool q gw c pg o bytes).1.accepted c' pg' pos = s.accepted c' pg' pos := by
  cases hfind : (s.liveOn c pg).find? (fun b => s.bufferHas b Buffer.isOpen) with
  | some b =>
    obtain ⟨-, x, hx, hc, hp⟩ := mem_liveOn.mp (List.mem_of_find?_eq_some hfind)
    have ho := List.find?_some (p := fun b => s.bufferHas b Buffer.isOpen) hfind
    rw [bufferHas_of_some hx] at ho
    have hreads := sameReads_mergeInto (q := q) (gw := gw) (o := o) (bytes := bytes) hx
    rw [writePool_merged hfind]
    refine .inl ⟨rfl, ?_⟩
    subst hc hp
    refine (hreads.overlaid (overlaid_merged hs hx ho _)).accepted (fun c pg => ?_) fun c => ?_
    · rw [hreads.clears, State.setBuffer_channel]
    · exact (workOnly_mergeInto ..).dataOnly.keepsStores.store c
  | none =>
    by_cases hlive : (s.liveOn c pg).length < 2
    · cases hfree : s.freeBuffer with
      | some b =>
        have hnone : s.buffer b = none := by
          have := List.find?_some (p := fun b => (s.buffer b).isNone) hfree
          simpa using this
        have hreads := sameReads_mergeInto (s := s.openBuffer b c pg) (q := q) (gw := gw) (o := o) (bytes := bytes) (b := b)
          ((openBuffer_buffer ..).trans (if_pos rfl))
        rw [writePool_opened hfind hlive hfree]
        refine .inl ⟨rfl, (hreads.overlaid (overlaid_opened hs hnone _)).accepted (fun c pg => ?_) fun c => ?_⟩
        · rw [hreads.clears]
          cases c <;> rfl
        · exact ((dataOnly_openBuffer ..).keepsStores.trans (workOnly_mergeInto ..).dataOnly.keepsStores).store c
      | none =>
        rw [writePool_full hfind hlive hfree]
        refine .inr ⟨rfl, ?_⟩
        exact ((sameReads_pressureSeal s).trans (sameReads_setCounters ..)).accepted
          ((workOnly_pressureSeal s).dataOnly.keepsStores.trans (dataOnly_setCounters ..).keepsStores).store
    · rw [writePool_busy hfind (Nat.not_lt.mp hlive)]
      exact .inr ⟨rfl, (sameReads_setCounters ..).accepted (dataOnly_setCounters ..).keepsStores.store⟩

/-- A CLEAR joins the queue of a sector without live buffers: its bytes read as 0xFF from then on (R92). -/
theorem accepted_appendClear (hl : (s.channel c).lawful) {pg : BitVec 16} (hlive : s.sectorLive c (sectorOf pg) = false) (q : ReqId)
    (c' : ChannelId) (pg' : BitVec 16) (pos : Nat) :
    (s.appendOp c (.clear (sectorOf pg) q)).accepted c' pg' pos
      = if c' = c ∧ pg'.toNat / 16 = pg.toNat / 16 then some 0xFF else s.accepted c' pg' pos := by
  have happend := appendOp_clear (sector := sectorOf pg) (q := q) hl
  have hov : (s.appendOp c (.clear (sectorOf pg) q)).overlayAt c' pg' pos = s.overlayAt c' pg' pos := by
    rw [happend]
    cases c <;> rfl
  have hstore : (s.appendOp c (.clear (sectorOf pg) q)).store c' = s.store c' := by
    rw [happend, State.setChannel_store]
  have hclears : ((s.appendOp c (.clear (sectorOf pg) q)).channel c').queue.any (Op.clears pg')
      = ((s.channel c').queue.any (Op.clears pg') || decide (c' = c ∧ sectorOf pg = sectorOf pg')) := by
    rw [happend, State.setChannel_channel]
    split
    next hcc =>
      subst hcc
      have hop (n : Nat) : Op.clears pg' ⟨.clear (sectorOf pg) q, n⟩ = decide (sectorOf pg = sectorOf pg') := by
        rw [Op.clears, Bool.eq_iff_iff, beq_iff_eq, decide_eq_true_eq]
      by_cases hi : (s.channel c').state = .idle
      · simp [Channel.withOp, hi, queue_eq_nil_of_idle hl hi, hop]
      · simp [Channel.withOp, hi, hop]
    next hcc => simp [hcc]
  rw [State.accepted, State.accepted, hov, hclears, hstore]
  by_cases hin : c' = c ∧ pg'.toNat / 16 = pg.toNat / 16
  · obtain ⟨rfl, hsector⟩ := hin
    have hnone : s.overlayAt c' pg' pos = none := by
      rw [overlayAt_eq, List.findSome?_eq_none_iff]
      refine fun b hb => pageByte_eq_none fun x hx hc hp => ?_
      have hyes : s.sectorLive c' (sectorOf pg) = true :=
        sectorLive_iff.mpr ⟨b, x, List.mem_reverse.mp hb, hx, hc, by rw [hp, hsector]⟩
      rw [hlive] at hyes
      cases hyes
    simp [hnone, hsector, (sectorOf_eq_iff pg pg').mpr hsector.symm]
  · have hfalse : decide (c' = c ∧ sectorOf pg = sectorOf pg') = false :=
      decide_eq_false fun h => hin ⟨h.1, ((sectorOf_eq_iff pg pg').mp h.2).symm⟩
    rw [hfalse, Bool.or_false, if_neg hin]

end Accepted

/-- Settles O57: the pool overlays the accepted bytes, the queue promises the cleared ones, and a refusal reads as before. -/
theorem acceptedRequestsChangeTheirBytes : Obligations.AcceptedRequestsChangeTheirBytes := by
  intro s p f q w hl hc hg
  have hcore := core_of_lawful hl
  have hbegun := portsOnly_beginTaking s p
  have hsame (c : ChannelId) (pg : BitVec 16) (pos : Nat) : (s.beginTaking p).accepted c pg pos = s.accepted c pg pos :=
    hbegun.sameReads.accepted hbegun.keepsStores.store c pg pos
  have hused (u : State) (c : ChannelId) (pg : BitVec 16) (pos : Nat) : (u.used w).accepted c pg pos = u.accepted c pg pos :=
    (sameReads_used u w).accepted (dataOnly_used u w).keepsStores.store c pg pos
  constructor
  · intro h hr n
    have hlen := length_writePayload h.1.2.1 h.1.1.2.2.2.2
    have hbytes := length_acceptedBytes hlen.1
    have hpool := writePool_accepted (hbegun.poolLaw hcore.pool) q (if (s.window w).grantRequired then some w else none)
      (s.channelOf w) (s.pageOf w f) (frameOffset f) (acceptedBytes f)
    rw [exec_write_passed h hr hg hc]
    generalize (s.beginTaking p).writePool q (if (s.window w).grantRequired then some w else none) (s.channelOf w)
      (s.pageOf w f) (frameOffset f) (acceptedBytes f) = served at hpool
    obtain ⟨u, body⟩ := served
    rcases hpool with ⟨hbody, haccepted⟩ | ⟨hbody, haccepted⟩
    · obtain rfl : body = .ack (acceptedBytes f).length := hbody
      refine ⟨u.used w, .ack n, by rw [noteUse_ack_eq, hbytes], .inl ⟨rfl, fun c pg pos _ => ?_⟩⟩
      have hwritten := haccepted c pg pos
      rw [hused, hwritten, hsame, acceptedBytes_eq hlen.1, writtenAt_take (by omega)]
    · obtain rfl : body = .refuse .busy := hbody
      exact ⟨u, .refuse .busy, rfl, .inr ⟨rfl, fun c pg pos _ => (haccepted c pg pos).trans (hsame c pg pos)⟩⟩
  · intro h hr hi
    rw [exec_clear_passed h hr hi hg hc]
    cases hlive : (s.beginTaking p).sectorLive (s.channelOf w) (sectorOf (s.pageOf w f)) with
    | true =>
      rw [clearChannel_conflict hlive]
      exact ⟨s.beginTaking p, .refuse .conflict, rfl, .inr ⟨.inl rfl, fun c pg pos _ => hsame c pg pos⟩⟩
    | false =>
      cases hroom : (s.beginTaking p).queueHasRoom (s.channelOf w) with
      | false =>
        rw [clearChannel_busy hlive hroom]
        refine ⟨_, .refuse .busy, rfl, .inr ⟨.inr rfl, fun c pg pos _ => ?_⟩⟩
        rw [← hsame]
        exact (sameReads_setCounters ..).accepted (dataOnly_setCounters ..).keepsStores.store c pg pos
      | true =>
        have hcore' := hbegun.core hcore
        rw [clearChannel_joins hlive hroom, noteUse_ack_eq]
        refine ⟨_, .ack 16, rfl, .inl ⟨rfl, fun c pg pos _ => ?_⟩⟩
        rw [hused, accepted_appendClear (hcore'.channels (s.channelOf w)) hlive q, hsame]

end Sys2Proof.Machine

/-! ### A part with nothing in work, and the state after pin reset (R153, R155) -/

namespace Sys2Proof.Machine

/-- Nothing is in work: pool, slots and queues are empty, and no channel works. -/
structure Blank (s : State) : Prop where
  buffers : ∀ b, s.buffer b = none
  slots : ∀ i, s.slot i = none
  openOrder : s.openOrder = []
  sealList : s.sealList = []
  queues : ∀ c, (s.channel c).queue = []
  timers : ∀ c, (s.channel c).timer = none
  states : ∀ c, (s.channel c).state.working = false
  streaks : ∀ c, (s.channel c).streak = 0

section Blank
variable {s : State}

theorem Blank.poolLaw (h : Blank s) : PoolLaw s where
  ranges := fun b x hx => by rw [h.buffers] at hx; cases hx
  lists := by
    refine ⟨by simp [h.openOrder], fun b => ?_, by simp [h.sealList], fun b => ?_⟩
    · simp [h.openOrder, h.buffers]
    · simp [h.sealList, State.bufferHas, h.buffers]
  order := by rw [h.openOrder]; exact List.Pairwise.nil
  room := fun c pg => by simp [State.liveOn, State.liveWith, h.openOrder]
  holds := fun b x hx => by rw [h.buffers] at hx; cases hx

theorem Blank.queueLaw (h : Blank s) : QueueLaw none s := by
  have hops : s.allOps = [] := by
    have h0 : s.sc0.queue = [] := h.queues .sc0
    have h1 : s.sc1.queue = [] := h.queues .sc1
    rw [State.allOps, h0, h1, List.append_nil]
  refine ⟨fun c => ?_, ?_, ?_, fun b x hx => ?_, fun _ i x hx => ?_, fun c => ?_⟩
  · rw [h.queues]; trivial
  · rw [State.queuedBuffers, hops]; exact List.nodup_nil
  · rw [State.queuedSlots, hops]; exact List.nodup_nil
  · rw [h.buffers] at hx; cases hx
  · rw [h.slots] at hx; cases hx
  · rw [h.queues]; exact List.Pairwise.nil

theorem Blank.lawful_channel (h : Blank s) (c : ChannelId) : (s.channel c).lawful := by
  refine ⟨?_, fun hw => ?_, fun _ => ⟨h.queues c, h.timers c⟩, ?_, fun _ => ?_⟩
  · rw [h.queues]; exact Nat.zero_le _
  · rw [h.states] at hw; cases hw
  · rw [h.streaks]; exact Nat.zero_le _
  · rw [h.streaks]; exact Nat.zero_le _

theorem Blank.core (h : Blank s) : Core none s where
  pool := h.poolLaw
  slots := fun i x hx => by rw [h.slots] at hx; cases hx
  queues := h.queueLaw
  channels := fun c => h.lawful_channel c

end Blank

theorem blank_reset : Blank State.reset where
  buffers := reset_buffer
  slots := reset_slot
  openOrder := rfl
  sealList := rfl
  queues := fun c => by cases c <;> rfl
  timers := fun c => by cases c <;> rfl
  states := fun c => by cases c <;> rfl
  streaks := fun c => by cases c <;> rfl

/-! #### The parts of the law -/

/-- The laws that stand apart from the others: tickets, grants of buffers, stores, and the values while RESET_N is asserted. -/
structure Aside (s : State) : Prop where
  tickets : s.ticketsLawful
  grantWindows : s.grantWindowsLawful
  stores : s.storesLawful
  reset : s.resetLawful

theorem lawful_of_parts {s : State} (hp : PortsLaw s) (hl : s.logLawful ∧ s.noticeLawful) (ht : TablesLaw s) (hc : Core none s)
    (ha : Aside s) : s.lawful := by
  obtain ⟨hports, hframes⟩ := (portsLaw_iff s).mpr hp
  obtain ⟨hlog, hnotice⟩ := hl
  obtain ⟨hm, hparams, hw, hg⟩ := ht
  obtain ⟨hslots, hchannels, hqueues, hbuffers, hlists, hoccupancy, horder, hholds, hclears⟩ := core_iff.mp hc
  exact ⟨hports, hframes, hlog, hnotice, hm, hparams, hw, hg, ha.tickets, hslots, hchannels, hqueues, hbuffers, hlists,
    hoccupancy, horder, hholds, ha.grantWindows, hclears, ha.stores, ha.reset⟩

theorem aside_of_lawful {s : State} (h : s.lawful) : Aside s := by
  obtain ⟨-, -, -, -, -, -, -, -, ht, -, -, -, -, -, -, -, -, hg, -, hs, hr⟩ := h
  exact ⟨ht, hg, hs, hr⟩

/-- Settles O52: nothing is in work, and ports, log and tables stand at their reset values. -/
theorem lawsHoldAtReset : Obligations.LawsHoldAtReset := by
  have hports : PortsLaw State.reset := fun p => by cases p <;> exact ok_reset
  have hlog : State.reset.logLawful ∧ State.reset.noticeLawful := (noticeLawful_iff State.reset).mpr
    ⟨⟨⟨Nat.zero_le _, rfl, fun _ => rfl⟩, fun hn => absurd rfl hn⟩, rfl⟩
  have htickets : ∀ i, State.reset.ticketOf i = none := fun i => by rw [State.ticketOf, reset_slot]; rfl
  refine lawful_of_parts hports hlog tablesLaw_reset blank_reset.core ⟨⟨by decide, fun i => ?_, fun i j _ hi => ?_⟩, fun b w hb => ?_,
    ⟨nil_wf, nil_wf⟩, fun _ => rfl⟩
  · rw [htickets]
    exact Option.some_ne_none _ |>.symm
  · exact absurd (htickets i) hi
  · rw [State.bufferHas, reset_buffer] at hb
    cases hb

end Sys2Proof.Machine

/-! ### The core in the middle of an event: frames and slots -/

namespace Sys2Proof.Machine

/-! #### What the core is not about -/

/-- t has the pool, the slots, the channels and the restart of s. -/
structure SameCore (s t : State) : Prop where
  buffers : t.buffers = s.buffers
  openOrder : t.openOrder = s.openOrder
  sealList : t.sealList = s.sealList
  slots : t.slots = s.slots
  sc0 : t.sc0 = s.sc0
  sc1 : t.sc1 = s.sc1
  restart : t.restart = s.restart

section SameCore
variable {s t : State} {gap : Gap}

theorem Core.of_same (h : Core gap s) (k : SameCore s t) : Core gap t := by
  obtain ⟨hbuffers, hopen, hseal, hslots, h0, h1, hr⟩ := k
  cases s
  cases t
  simp only at hbuffers hopen hseal hslots h0 h1 hr
  subst hbuffers hopen hseal hslots h0 h1 hr
  exact ⟨⟨h.pool.ranges, h.pool.lists, h.pool.order, h.pool.room, h.pool.holds⟩, h.slots,
    ⟨h.queues.fits, h.queues.buffersOnce, h.queues.slotsOnce, h.queues.owned, h.queues.awaited, h.queues.clears⟩, h.channels⟩

theorem sameCore_append (e : Event) (s : State) : SameCore s (s.append e) :=
  ⟨append_buffers e s, append_openOrder e s, append_sealList e s, append_slots e s, append_sc0 e s, append_sc1 e s,
    append_restart e s⟩

theorem sameCore_setCounters (s : State) (k : PartCounters) : SameCore s (s.setCounters k) := ⟨rfl, rfl, rfl, rfl, rfl, rfl, rfl⟩

theorem sameCore_setGrant (s : State) (w : WindowId) (g : Option Grant) : SameCore s (s.setGrant w g) :=
  ⟨rfl, rfl, rfl, rfl, rfl, rfl, rfl⟩

theorem sameCore_setWindow (s : State) (w : WindowId) (e : WindowEntry) : SameCore s (s.setWindow w e) :=
  ⟨rfl, rfl, rfl, rfl, rfl, rfl, rfl⟩

theorem sameCore_setStore (s : State) (c : ChannelId) (m : Cells) : SameCore s (s.setStore c m) := by
  cases c <;> exact ⟨rfl, rfl, rfl, rfl, rfl, rfl, rfl⟩

theorem Core.append (h : Core gap s) (e : Event) : Core gap (s.append e) := h.of_same (sameCore_append e s)

end SameCore

/-! #### Slots -/

section Slots
variable {good good' : BufferId → ReqId → Prop} {slot slot' : SlotId → Option Slot} {i : SlotId} {x y : Slot} {f : Slot → Slot}

/-- The slot waits for a buffer. -/
def Slot.WaitsOn (x : Slot) (b : BufferId) : Prop := ∃ m, x.work = .sync m ∧ x.phase = .fetching ∧ inSet m b = true

theorem waits_iff : Waits good slot
    ↔ ∀ i x, slot i = some x → x.inRanges = true ∧ ∀ b, x.WaitsOn b → good b x.requester := by
  unfold Waits Slot.WaitsOn
  constructor
  · intro h i x hx
    exact ⟨(h i x hx).1, fun b ⟨m, hw, hp, hb⟩ => (h i x hx).2 m hw hp b hb⟩
  · intro h i x hx
    exact ⟨(h i x hx).1, fun m hw hp b hb => (h i x hx).2 b ⟨m, hw, hp, hb⟩⟩

/-- One slot changes. -/
theorem Waits.set (h : Waits good slot) (hslot : ∀ j, slot' j = if j = i then some y else slot j) (hy : y.inRanges = true)
    (hw : ∀ b, y.WaitsOn b → good b y.requester) : Waits good slot' := by
  rw [waits_iff] at h ⊢
  intro j x hx
  rw [hslot] at hx
  split at hx
  next => cases hx; exact ⟨hy, hw⟩
  next => exact h j x hx

/-- One slot is freed. -/
theorem Waits.free (h : Waits good slot) (hslot : ∀ j, slot' j = if j = i then none else slot j) : Waits good slot' := by
  rw [waits_iff] at h ⊢
  intro j x hx
  rw [hslot] at hx
  split at hx
  next => cases hx
  next => exact h j x hx

/-- All slots change in one way. -/
theorem Waits.map (h : Waits good slot) (hslot : ∀ j, slot' j = (slot j).map f)
    (hr : ∀ x, x.inRanges = true → (f x).inRanges = true)
    (hw : ∀ x b, (f x).WaitsOn b → x.WaitsOn b ∧ (good b x.requester → good' b (f x).requester)) : Waits good' slot' := by
  rw [waits_iff] at h ⊢
  intro j y hy
  rw [hslot] at hy
  obtain ⟨x, hx, rfl⟩ := Option.map_eq_some_iff.mp hy
  obtain ⟨hranges, hwaits⟩ := h j x hx
  exact ⟨hr x hranges, fun b hb => (hw x b hb).2 (hwaits b (hw x b hb).1)⟩

/-- A change of slots that leaves those that fetch. -/
def LeavesReads (f : Slot → Slot) : Prop := ∀ x, (f x).fetchesRead = x.fetchesRead ∧ (x.fetchesRead = true → f x = x)

theorem fetchesRead_iff (x : Slot) : x.fetchesRead = true ↔ x.phase = .fetching ∧ ∃ r, x.work = .read r := by
  obtain ⟨ticket, requester, work, phase⟩ := x
  cases phase <;> cases work <;> simp [Slot.fetchesRead]

theorem not_waitsOn_of_reads {b : BufferId} (h : x.fetchesRead = true) : ¬ x.WaitsOn b := by
  obtain ⟨-, r, hr⟩ := (fetchesRead_iff x).mp h
  rintro ⟨m, hm, -, -⟩
  rw [hr] at hm
  cases hm

theorem not_waitsOn_of_phase {b : BufferId} (h : x.phase ≠ .fetching) : ¬ x.WaitsOn b := fun ⟨_, _, hp, _⟩ => h hp

/-- What a buffer that goes HELD does to a slot: one that waits on it fails (R67). -/
theorem memberHeld_or (a : BufferId) (cause : HoldCause) (hold : Micros) (x : Slot) :
    (¬ x.WaitsOn a ∧ x.memberHeld a cause hold = x)
      ∨ x.WaitsOn a ∧ x.memberHeld a cause hold = { x with phase := .failed cause.slotCause hold } := by
  obtain ⟨ticket, requester, work, phase⟩ := x
  cases phase with
  | fetching =>
    cases work with
    | read r => exact .inl ⟨fun ⟨m, hm, _⟩ => (by cases hm), rfl⟩
    | sync m =>
      cases hm : inSet m a with
      | false => exact .inl ⟨fun ⟨m', hm', _, hb⟩ => (by cases hm'; rw [hm] at hb; cases hb), by simp [Slot.memberHeld, hm]⟩
      | true => exact .inr ⟨⟨m, rfl, rfl, hm⟩, by simp [Slot.memberHeld, hm]⟩
  | ready | failed => exact .inl ⟨fun ⟨m, _, hp, _⟩ => (by cases hp), rfl⟩

theorem inRanges_failed {cause : FailureCause} {hold : Micros} (h : x.inRanges = true) (hp : x.phase = .fetching) :
    Slot.inRanges { x with phase := .failed cause hold } = true := by
  obtain ⟨ticket, requester, work, phase⟩ := x
  subst hp
  cases work <;> exact h

theorem leavesReads_memberHeld (a : BufferId) (cause : HoldCause) (hold : Micros) :
    LeavesReads (Slot.memberHeld a cause hold) := by
  intro x
  rcases memberHeld_or a cause hold x with ⟨-, h⟩ | ⟨hw, h⟩
  · rw [h]; exact ⟨rfl, fun _ => rfl⟩
  · have hno : x.fetchesRead = false := Bool.eq_false_iff.mpr fun hr => not_waitsOn_of_reads hr hw
    rw [h, hno]
    exact ⟨rfl, fun hc => by cases hc⟩

/-- After a buffer went HELD no slot waits on it (R67). -/
theorem Waits.held (h : Waits good slot) {a : BufferId} {cause : HoldCause} {hold : Micros}
    (hslot : ∀ j, slot' j = (slot j).map (Slot.memberHeld a cause hold)) (hg : ∀ b q, b ≠ a → good b q → good' b q) :
    Waits good' slot' := by
  refine h.map hslot (fun x hx => ?_) fun x b hb => ?_
  · rcases memberHeld_or a cause hold x with ⟨-, h⟩ | ⟨⟨m, -, hp, -⟩, h⟩
    · rwa [h]
    · rw [h]; exact inRanges_failed hx hp
  · rcases memberHeld_or a cause hold x with ⟨hno, h⟩ | ⟨-, h⟩
    · rw [h] at hb ⊢
      refine ⟨hb, hg b _ ?_⟩
      rintro rfl
      exact hno hb
    · rw [h] at hb
      exact absurd hb (not_waitsOn_of_phase (by simp))

/-- What a buffer whose program succeeded does to a slot: it leaves the wait set (R66). -/
theorem memberProgrammed_or (a : BufferId) (hold : Micros) (x : Slot) :
    (¬ x.WaitsOn a ∧ x.memberProgrammed a hold = x)
      ∨ ∃ m, x.work = .sync m ∧ x.phase = .fetching
        ∧ x.memberProgrammed a hold
          = { x with work := .sync (leaveSet m a), phase := if leaveSet m a = 0 then .ready [] hold else .fetching } := by
  obtain ⟨ticket, requester, work, phase⟩ := x
  cases phase with
  | fetching =>
    cases work with
    | read r => exact .inl ⟨fun ⟨m, hm, _⟩ => (by cases hm), rfl⟩
    | sync m =>
      cases hm : inSet m a with
      | false => exact .inl ⟨fun ⟨m', hm', _, hb⟩ => (by cases hm'; rw [hm] at hb; cases hb), by simp [Slot.memberProgrammed, hm]⟩
      | true => exact .inr ⟨m, rfl, rfl, by simp [Slot.memberProgrammed, hm]⟩
  | ready | failed => exact .inl ⟨fun ⟨m, _, hp, _⟩ => (by cases hp), rfl⟩

theorem leavesReads_memberProgrammed (a : BufferId) (hold : Micros) : LeavesReads (Slot.memberProgrammed a hold) := by
  intro x
  rcases memberProgrammed_or a hold x with ⟨-, h⟩ | ⟨m, hm, -, h⟩
  · rw [h]; exact ⟨rfl, fun _ => rfl⟩
  · have hno : x.fetchesRead = false := by
      rw [Bool.eq_false_iff, ne_eq, fetchesRead_iff]
      rintro ⟨-, r, hr⟩
      rw [hm] at hr
      cases hr
    have hno' : (x.memberProgrammed a hold).fetchesRead = false := by
      rw [h, Bool.eq_false_iff, ne_eq, fetchesRead_iff]
      rintro ⟨-, r, hr⟩
      cases hr
    rw [hno, hno']
    exact ⟨rfl, fun hc => by cases hc⟩

/-- After the program of a buffer no slot waits on it (R66). -/
theorem Waits.programmed (h : Waits good slot) {a : BufferId} {hold : Micros}
    (hslot : ∀ j, slot' j = (slot j).map (Slot.memberProgrammed a hold)) (hg : ∀ b q, b ≠ a → good b q → good' b q) :
    Waits good' slot' := by
  refine h.map hslot (fun x hx => ?_) fun x b hb => ?_
  · rcases memberProgrammed_or a hold x with ⟨-, h⟩ | ⟨m, hm, hp, h⟩
    · rwa [h]
    · rw [h]
      simp only [Slot.inRanges, Bool.and_eq_true] at hx ⊢
      refine ⟨hx.1, ?_⟩
      split
      next hw hp' => cases hw
      next hw hp' => cases hw
      next hw hp' => cases hw
      next hw hp' =>
        cases hw
        rw [bne_iff_ne]
        intro hzero
        simp [hzero] at hp'
      next data hold' hw hp' =>
        split at hp'
        next => cases hp'; rfl
        next => cases hp'
      next hw hp' =>
        split at hp' <;> cases hp'
  · rcases memberProgrammed_or a hold x with ⟨hno, h⟩ | ⟨m, hm, hp, h⟩
    · rw [h] at hb ⊢
      refine ⟨hb, hg b _ ?_⟩
      rintro rfl
      exact hno hb
    · rw [h] at hb ⊢
      obtain ⟨m', hm', -, hmem⟩ := hb
      cases hm'
      rw [inSet_leaveSet, Bool.and_eq_true, decide_eq_true_eq] at hmem
      refine ⟨⟨m, hm, hp, hmem.1⟩, hg b _ ?_⟩
      rintro rfl
      exact hmem.2 rfl

end Slots

end Sys2Proof.Machine

/-! ### Seals and moves keep the core (R31, R37, R38) -/

namespace Sys2Proof.Machine

/-- The attempts a buffer of that phase counts (R23). -/
def BufferPhase.attemptsFit (n : Nat) : BufferPhase → Prop
  | .opened _ _ | .sealed | .queued | .held .channelOffline => n = 0
  | .programming | .held .programFailed => 1 ≤ n ∧ n ≤ 8

section Ranges
variable {s t : State} {b : BufferId} {x y : Buffer}

theorem inRanges_iff (x : Buffer) : x.inRanges = true
    ↔ (x.staged ≠ [] ∧ x.staged.all (fun c => c.1 < Config.pageBytes) = true ∧ x.writers ≠ 0 ∧ inSet x.writers 0 = false)
      ∧ x.phase.attemptsFit x.attempts := by
  have hattempts : (match x.phase with
      | .opened _ _ | .sealed | .queued | .held .channelOffline => x.attempts == 0
      | .programming | .held .programFailed => decide (1 ≤ x.attempts) && decide (x.attempts ≤ 8)) = true
      ↔ x.phase.attemptsFit x.attempts := by
    unfold BufferPhase.attemptsFit
    split <;> simp
  rw [Buffer.inRanges, Bool.and_eq_true, Bool.and_eq_true, Bool.and_eq_true, Bool.and_eq_true]
  refine and_congr ?_ hattempts
  simp only [Bool.not_eq_true', List.isEmpty_eq_false_iff, ne_eq, bne_iff_ne, and_assoc]

theorem SameData.inRanges (h : x.SameData y) (hx : x.inRanges = true ∧ cellsWf x.staged) (ha : y.phase.attemptsFit y.attempts) :
    y.inRanges = true ∧ cellsWf y.staged := by
  rw [inRanges_iff] at hx ⊢
  rw [h]
  exact ⟨⟨hx.1.1, ha⟩, hx.2⟩

/-- A buffer changes phase and attempts inside the laws of the pool. -/
theorem PoolLaw.stepTo (hs : PoolLaw s) (hx : s.buffer b = some x) (hd : x.SameData y) (ha : y.phase.attemptsFit y.attempts)
    (ho : y.isOpen = true → x.isOpen = true)
    (hw : y.onWay = true → x.onWay = true ∨ ∀ a z, [a, b].Sublist s.openOrder → s.buffer a = some z →
      ¬ (x.channel = z.channel ∧ x.page = z.page))
    (hh : t.channelFits y = true) : PoolStep s t b x y where
  channel := by rw [hd]
  page := by rw [hd]
  ranges := SameData.inRanges hd (hs.ranges b x hx) ha
  opens := ho
  way := fun hy a z hab hz => by
    rcases hw hy with hxw | hno
    · exact hs.no_older hx hxw hab hz
    · exact hno a z hab hz
  holds := hh

theorem attempts_of_ranges (hs : PoolLaw s) (hx : s.buffer b = some x) : x.phase.attemptsFit x.attempts :=
  ((inRanges_iff x).mp (hs.ranges b x hx).1).2

theorem attempts_of_open (hs : PoolLaw s) (hx : s.buffer b = some x) (ho : x.isOpen = true) : x.attempts = 0 := by
  have h := attempts_of_ranges hs hx
  obtain ⟨idle, limit, hp⟩ := (isOpen_iff x).mp ho
  rwa [hp] at h

end Ranges

/-- The slots of t are those of s, changed where they do not fetch. -/
def SlotsBy (f : Slot → Slot) (s t : State) : Prop := LeavesReads f ∧ ∀ i, t.slot i = (s.slot i).map f

section Owners
variable {s t : State} {b : BufferId} {f : Slot → Slot}

theorem slotsBy_id (h : ∀ i, t.slot i = s.slot i) : SlotsBy id s t :=
  ⟨fun _ => ⟨rfl, fun _ => rfl⟩, fun i => by rw [h, Option.map_id]; rfl⟩

theorem SlotsBy.reads (h : SlotsBy f s t) {i : SlotId} {x : Slot} (hx : s.slot i = some x) (hf : x.fetchesRead = true) :
    t.slot i = some x := by
  obtain ⟨hleaves, hslot⟩ := h
  rw [hslot, hx, Option.map_some, (hleaves x).2 hf]

theorem SlotsBy.readsBack (h : SlotsBy f s t) {i : SlotId} {y : Slot} (hy : t.slot i = some y) (hf : y.fetchesRead = true) :
    s.slot i = some y := by
  obtain ⟨hleaves, hslot⟩ := h
  rw [hslot] at hy
  obtain ⟨x, hx, rfl⟩ := Option.map_eq_some_iff.mp hy
  rw [(hleaves x).1] at hf
  rw [hx, (hleaves x).2 hf]

/-- A buffer that is not on its way, before or after, changes. -/
theorem sameOwners_of_aside (hc : ∀ c, (t.channel c).queue = (s.channel c).queue ∧ (t.channel c).number = (s.channel c).number)
    (hr : t.restart = s.restart) (hslots : SlotsBy f s t)
    (hway : ∀ b x, s.buffer b = some x → x.onWay = true → t.buffer b = some x)
    (hback : ∀ b y, t.buffer b = some y → y.onWay = true → s.buffer b = some y) : SameOwners s t where
  queue := fun c => (hc c).1
  number := fun c => (hc c).2
  restart := hr
  way := fun b x hx hw => ⟨x, hway b x hx hw, rfl, rfl, rfl, rfl⟩
  wayBack := fun b y hy hw => ⟨y, hback b y hy hw, rfl⟩
  reads := fun _ x hx hf => ⟨x, hslots.reads hx hf, rfl, rfl⟩
  readsBack := fun _ y hy hf => ⟨y, hslots.readsBack hy hf, hf⟩

theorem way_of_set {o : Option Buffer} (hbuf : ∀ b', t.buffer b' = if b' = b then o else s.buffer b')
    (hx : ∀ x, s.buffer b = some x → x.onWay = false) {b' : BufferId} {x : Buffer} (hb : s.buffer b' = some x)
    (hw : x.onWay = true) : t.buffer b' = some x := by
  rw [hbuf]
  split
  next h => subst h; rw [hx x hb] at hw; cases hw
  next => exact hb

theorem wayBack_of_set {o : Option Buffer} (hbuf : ∀ b', t.buffer b' = if b' = b then o else s.buffer b')
    (ho : ∀ y, o = some y → y.onWay = false) {b' : BufferId} {y : Buffer} (hb : t.buffer b' = some y) (hw : y.onWay = true) :
    s.buffer b' = some y := by
  rw [hbuf] at hb
  split at hb
  next => rw [ho y hb] at hw; cases hw
  next => exact hb

theorem onWay_eq_false_of_sealed {x : Buffer} (h : x.phase = .sealed) : x.onWay = false := by simp [Buffer.onWay, h]

theorem onWay_eq_false_of_held {x : Buffer} {cause : HoldCause} (h : x.phase = .held cause) : x.onWay = false := by
  simp [Buffer.onWay, h]

end Owners

/-! #### A seal on an online channel: the buffer is listed (R31) -/

section Seal
variable {s t : State} {b : BufferId} {x : Buffer} {gap : Gap} {c : ChannelId}

theorem listSealed_buffer (b' : BufferId) : (s.listSealed b x).buffer b' = if b' = b then some (x.inPhase .sealed) else s.buffer b' :=
  State.setBuffer_buffer ..

theorem listSealed_channel (c : ChannelId) : (s.listSealed b x).channel c = s.channel c := by cases c <;> rfl

theorem notSealed_of_open (h : x.isOpen = true) : x.isSealed = false := by
  obtain ⟨idle, limit, hp⟩ := (isOpen_iff x).mp h
  simp [Buffer.isSealed, hp]

/-- A buffer that is not SEALED is not on the seal list. -/
theorem PoolLaw.not_listed (hs : PoolLaw s) (hx : s.buffer b = some x) (hno : x.isSealed = false) : b ∉ s.sealList := by
  obtain ⟨-, -, -, hsealed⟩ := hs.lists
  rw [hsealed, bufferHas_of_some hx, hno]
  exact Bool.false_ne_true

theorem sealedFits (hon : (s.channel x.channel).state.online = true) (hp : x.phase = .sealed) : s.channelFits x = true := by
  simp only [State.channelFits, hp, bne_iff_ne, ne_eq]
  intro hoff
  rw [hoff] at hon
  cases hon

theorem coming_of_set {y : Buffer} (hx : s.buffer b = some x) (hbuf : ∀ b', t.buffer b' = if b' = b then some y else s.buffer b')
    (hc : x.phase.committing = true → y.phase.committing = true) (hw : ∀ n, inSet x.writers n = true → inSet y.writers n = true)
    {b' : BufferId} {q : ReqId} (h : s.Coming b' q) : t.Coming b' q := by
  refine coming_of_buffers (fun a z hz hzc => ?_) h
  rw [hbuf]
  split
  next hab => subst hab; cases hx.symm.trans hz; exact ⟨y, rfl, hc hzc, hw⟩
  next => exact ⟨z, hz, hzc, fun _ h => h⟩

theorem Core.listSealed (h : Core gap s) (hx : s.buffer b = some x) (ho : x.isOpen = true)
    (hon : (s.channel x.channel).state.online = true) : Core gap (s.listSealed b x) := by
  have hwayX : x.onWay = false := onWay_eq_false_of_open ho
  have hwayY : (x.inPhase .sealed).onWay = false := onWay_eq_false_of_sealed rfl
  have hnot : b ∉ s.sealList := h.pool.not_listed hx (notSealed_of_open ho)
  constructor
  case pool =>
    refine h.pool.set hx listSealed_buffer rfl (fun c => by rw [listSealed_channel]; exact .refl _) rfl
      (h.pool.stepTo hx rfl (attempts_of_open (x := x) h.pool hx ho) (fun hy => by cases hy) (fun hy => by rw [hwayY] at hy; cases hy) ?_)
      ?_ (fun b' hb' => ?_) ?_
    · exact sealedFits (by rw [listSealed_channel]; exact hon) rfl
    · exact List.nodup_append.mpr ⟨h.pool.lists.2.2.1, List.nodup_singleton b, fun a ha c hc => by
        rw [List.mem_singleton.mp hc]
        rintro rfl
        exact hnot ha⟩
    · simp [State.listSealed, hb']
    · simp [State.listSealed, Buffer.isSealed]
  case slots =>
    refine SlotLaw.keep h.slots (fun i => rfl) fun b' q => coming_of_set hx listSealed_buffer (fun _ => rfl) fun _ h => h
  case queues =>
    refine h.queues.same (sameOwners_of_aside (fun c => by rw [listSealed_channel]; exact ⟨rfl, rfl⟩) rfl (slotsBy_id fun _ => rfl)
      (fun b' x' => way_of_set listSealed_buffer fun y hy => by cases hx.symm.trans hy; exact hwayX)
      fun b' y' => wayBack_of_set listSealed_buffer fun y hy => by cases hy; exact hwayY)
  case channels => exact fun c => by rw [listSealed_channel]; exact h.channels c

/-! #### A seal elsewhere, and other holds of a buffer that is not on its way (R31) -/

theorem holdBuffer_slot (s : State) (b : BufferId) (cause : HoldCause) (i : SlotId) :
    (s.holdBuffer b cause).slot i = (s.slot i).map (Slot.memberHeld b cause s.params.holdTime) := by
  rw [State.holdBuffer, mapSlots_slot]
  congr 1
  unfold State.modifyBuffer
  split <;> rfl

theorem slotsBy_holdBuffer (s : State) (b : BufferId) (cause : HoldCause) : SlotsBy (Slot.memberHeld b cause s.params.holdTime) s (s.holdBuffer b cause) :=
  ⟨leavesReads_memberHeld b cause s.params.holdTime, holdBuffer_slot s b cause⟩

theorem holdBuffer_set {cause : HoldCause} (hx : s.buffer b = some x) (b' : BufferId) :
    (s.holdBuffer b cause).buffer b' = if b' = b then some (x.inPhase (.held cause)) else s.buffer b' := by
  rw [holdBuffer_buffer]
  split
  next h => subst h; rw [hx]; rfl
  next => exact Option.map_id'

theorem holdBuffer_channel (s : State) (b : BufferId) (cause : HoldCause) (c : ChannelId) :
    (s.holdBuffer b cause).channel c = s.channel c := (sameQueues_holdBuffer s b cause).channel c

/-- No slot waits on the HELD buffer, and the others wait as before (R67). -/
theorem SlotLaw.hold (h : SlotLaw s) (hx : s.buffer b = some x) (cause : HoldCause) : SlotLaw (s.holdBuffer b cause) := by
  refine Waits.held h (holdBuffer_slot s b cause) fun b' q hb' hcoming => ?_
  obtain ⟨y, hy, hc, hw⟩ := hcoming
  exact ⟨y, by rw [holdBuffer_set hx, if_neg hb', hy], hc, hw⟩

theorem Core.holdOpen (h : Core gap s) (hx : s.buffer b = some x) (ho : x.isOpen = true)
    (hoff : (s.channel x.channel).state.online = false) : Core gap (s.holdBuffer b .channelOffline) := by
  have hwayX : x.onWay = false := onWay_eq_false_of_open ho
  have hwayY : (x.inPhase (.held .channelOffline)).onWay = false := onWay_eq_false_of_held rfl
  have hqueues := sameQueues_holdBuffer s b .channelOffline
  have hr : (s.holdBuffer b .channelOffline).restart = s.restart := by rw [holdBuffer_rest]
  constructor
  case pool =>
    refine h.pool.set hx (holdBuffer_set hx) hqueues.openOrder (fun c => by rw [hqueues.channel]; exact .refl _) hr
      (h.pool.stepTo hx rfl (attempts_of_open (x := x) h.pool hx ho) (fun hy => by cases hy) (fun hy => by rw [hwayY] at hy; cases hy) ?_)
      (by rw [hqueues.sealList]; exact h.pool.lists.2.2.1) (fun b' _ => by rw [hqueues.sealList]) ?_
    · simp only [State.channelFits, hqueues.channel, hoff, Bool.not_false]
    · rw [hqueues.sealList]
      exact iff_of_false (h.pool.not_listed hx (notSealed_of_open ho)) Bool.false_ne_true
  case slots => exact SlotLaw.hold h.slots hx _
  case queues =>
    refine h.queues.same (sameOwners_of_aside (fun c => by rw [hqueues.channel]; exact ⟨rfl, rfl⟩) hr (slotsBy_holdBuffer ..)
      (fun b' x' => way_of_set (holdBuffer_set hx) fun y hy => by cases hx.symm.trans hy; exact hwayX)
      fun b' y' => wayBack_of_set (holdBuffer_set hx) fun y hy => by cases hy; exact hwayY)
  case channels => exact fun c => by rw [hqueues.channel]; exact h.channels c

end Seal

end Sys2Proof.Machine

/-! ### Moves keep the core (R37, R38, R75) -/

namespace Sys2Proof.Machine

/-- In the gap the channel's head is not started, and an operation that joins its queue waits. -/
def Moving (gap : Gap) (s : State) : Prop := ∀ c number, gap = some (c, number) → number = none ∧ (s.channel c).state ≠ .idle

theorem moving_none (s : State) : Moving none s := fun _ _ h => by cases h

section Channels
variable {s t : State} {gap : Gap} {c : ChannelId} {ch : Channel} {k : OpKind} {request : StoreRequest} {n : Nat}

theorem atGap_iff (gap : Gap) (c : ChannelId) : gap.any (fun g => g.1 = c) = true ↔ ∃ number, gap = some (c, number) := by
  cases gap with
  | none => simp
  | some g => obtain ⟨c', number⟩ := g; simp

/-- One channel changes. -/
theorem ChannelLaw.set (h : ChannelLaw gap s) (ht : ∀ c', c' ≠ c → t.channel c' = s.channel c')
    (hgap : (∃ number, gap = some (c, number)) → (t.channel c).resting)
    (hlaw : (∀ number, gap ≠ some (c, number)) → (t.channel c).lawful) : ChannelLaw gap t := by
  intro c'
  by_cases hc : c' = c
  · subst hc
    by_cases hg : ∃ number, gap = some (c', number)
    · rw [if_pos ((atGap_iff gap c').mpr hg)]
      exact hgap hg
    · rw [if_neg (fun h => hg ((atGap_iff gap c').mp h))]
      exact hlaw (not_exists.mp hg)
  · rw [ht c' hc]
    exact h c'

theorem ChannelLaw.resting (h : ChannelLaw gap s) {number : Option (BitVec 8)} (hg : gap = some (c, number)) :
    (s.channel c).resting := by
  have := h c
  rwa [if_pos ((atGap_iff gap c).mpr ⟨number, hg⟩)] at this

theorem ChannelLaw.lawful (h : ChannelLaw gap s) (hg : ∀ number, gap ≠ some (c, number)) : (s.channel c).lawful := by
  have := h c
  rwa [if_neg (fun h => not_exists.mpr hg ((atGap_iff gap c).mp h))] at this

theorem Core.queue_of_idle (h : Core gap s) (hm : Moving gap s) (c : ChannelId) (hi : (s.channel c).state = .idle) :
    (s.channel c).queue = [] :=
  queue_eq_nil_of_idle (h.channels.lawful fun number hg => (hm c number hg).2 hi) hi

theorem withOp_queue (hq : ch.state = .idle → ch.queue = []) :
    (ch.withOp k request n).queue = ch.queue ++ [⟨k, if ch.state = .idle then 1 else 0⟩] := by
  unfold Channel.withOp
  split
  next hi => rw [hq hi]; rfl
  next => rfl

theorem withOp_number_behind (hi : ch.state ≠ .idle) : (ch.withOp k request n).number = ch.number := by
  rw [Channel.withOp, if_neg hi]

/-- An online channel with room takes an operation more (R75). -/
theorem withOp_lawful (hl : ch.lawful) (hon : ch.state.online = true) (hroom : ch.queue.length < 16) :
    (ch.withOp k request n).lawful := by
  obtain ⟨-, hworking, -, hstreak, hoff⟩ := hl
  by_cases hi : ch.state = .idle
  · have hstreak' := hoff (by rw [hi]; decide)
    simp only [Channel.withOp, hi, if_true]
    exact ⟨(by decide : 1 ≤ 16), fun _ => ⟨List.cons_ne_nil _ _, Option.some_ne_none _⟩, fun h => (by cases h), hstreak,
      fun _ => hstreak'⟩
  · have hbusy : ch.state = .busy := by
      cases hs : ch.state with
      | idle => exact absurd hs hi
      | busy => rfl
      | quiescing | offline => rw [hs] at hon; cases hon
    rw [Channel.withOp, if_neg hi]
    refine ⟨?_, fun hw => ⟨by simp, (hworking hw).2⟩, fun hw => ?_, hstreak, hoff⟩
    · simp only [List.length_append, List.length_singleton, Config.channelPlaces]
      omega
    · change ch.state.working = false at hw
      rw [hbusy] at hw
      cases hw

theorem withOp_resting (hr : ch.resting) (hi : ch.state ≠ .idle) (hroom : ch.queue.length < 16) :
    (ch.withOp k request n).resting := by
  obtain ⟨-, htimer, hstreak⟩ := hr
  rw [Channel.withOp, if_neg hi]
  refine ⟨?_, htimer, hstreak⟩
  simp only [List.length_append, List.length_singleton]
  omega

theorem sameStanding_withOp : SameStanding ch.state (ch.withOp k request n).state := by
  refine ⟨withOp_online .., ?_⟩
  rw [withOp_state]
  split
  next hi => rw [hi]; simp
  next => rfl

end Channels

section Move
variable {s t : State} {gap : Gap} {c : ChannelId} {b : BufferId} {x : Buffer}

/-- What comes first of two stands before the other. -/
theorem mem_takeWhile_of_pair {α : Type} [DecidableEq α] {a b : α} {l : List α} (hn : l.Nodup) (h : [a, b].Sublist l) :
    a ∈ l.takeWhile (· ≠ b) := by
  induction l with
  | nil => cases h
  | cons d l ih =>
    obtain ⟨hd, hl⟩ := List.nodup_cons.mp hn
    have hb : b ∈ l := by
      cases h with
      | cons _ h => exact h.subset (by simp)
      | cons_cons _ h => exact h.subset (by simp)
    have hne : d ≠ b := fun h => hd (h ▸ hb)
    rw [List.takeWhile_cons_of_pos (by simpa using hne)]
    cases h with
    | cons _ h => exact List.mem_cons_of_mem _ (ih hl h)
    | cons_cons _ _ => exact List.mem_cons_self ..

/-- A buffer that may move is the oldest of its page (R37). -/
theorem PoolLaw.oldest_of_movable (h : PoolLaw s) (hx : s.buffer b = some x) (hold : s.olderBlocks b x = false) {a : BufferId}
    {z : Buffer} (hab : [a, b].Sublist s.openOrder) (hz : s.buffer a = some z) : ¬ (x.channel = z.channel ∧ x.page = z.page) := by
  rintro ⟨hc, hp⟩
  have hclosed := (List.pairwise_iff_forall_sublist.mp h.order hab z x hz hx hc hp).1
  have hmem := mem_takeWhile_of_pair h.lists.1 hab
  rw [State.olderBlocks, List.any_eq_false] at hold
  refine hold a hmem ?_
  have hon : z.isOn x.channel x.page = true := (isOn_iff ..).mpr ⟨hc.symm, hp.symm⟩
  rw [bufferHas_of_some hz, hon, hclosed]
  rfl

/-- On its way a buffer fits a channel that is not OFFLINE (R43). -/
theorem channelFits_of_committing (hc : x.phase.committing = true) (hne : (t.channel x.channel).state ≠ .offline) :
    t.channelFits x = true := by
  have hne' : ((t.channel x.channel).state != .offline) = true := bne_iff_ne.mpr hne
  unfold State.channelFits
  split
  next => exact hne'
  next => exact hne'
  next => rw [hne', Bool.or_true]
  next h => rw [h] at hc; cases hc
  next h => rfl
  next h => rfl

theorem moveToQueue_buffer (hq : (s.channel c).state = .idle → (s.channel c).queue = []) (b' : BufferId) :
    (s.moveToQueue c b x).buffer b' = if b' = b then some (x.moved (s.channel c).state) else s.buffer b' := by
  rw [moveToQueue_calm hq]
  change ((s.setBuffer b _).setChannel c _).buffer b' = _
  rw [State.setChannel_buffer, State.setBuffer_buffer]

theorem moveToQueue_channel (hq : (s.channel c).state = .idle → (s.channel c).queue = []) (c' : ChannelId) :
    (s.moveToQueue c b x).channel c' = if c' = c then
      (s.channel c).withOp (.program x.page b) (.program x.page x.staged) s.params.opTimeout else s.channel c' := by
  rw [moveToQueue_calm hq]
  change ((s.setBuffer b _).setChannel c _).channel c' = _
  rw [State.setChannel_channel, State.setBuffer_channel]

theorem moveToQueue_slot (hq : (s.channel c).state = .idle → (s.channel c).queue = []) (i : SlotId) :
    (s.moveToQueue c b x).slot i = s.slot i := by
  rw [moveToQueue_calm hq]
  change ((s.setBuffer b _).setChannel c _).slot i = _
  rw [State.setChannel_slot, State.setBuffer_slot]

theorem moved_phase (x : Buffer) (state : ChannelState) :
    (x.moved state).phase = if state = .idle then .programming else .queued := by
  unfold Buffer.moved
  split <;> rfl

theorem moved_attempts (x : Buffer) (state : ChannelState) : (x.moved state).attempts = if state = .idle then 1 else 0 := by
  unfold Buffer.moved
  split <;> rfl

theorem moved_sameData (x : Buffer) (state : ChannelState) : x.SameData (x.moved state) := (moved_onward x state).sameData

theorem moved_notSealed (x : Buffer) (state : ChannelState) : (x.moved state).isSealed = false := by
  unfold Buffer.moved
  split <;> rfl

/-- The SEALED buffer the rule moves. -/
theorem Core.sealed_of_movable (h : Core gap s) (hm : s.movable c = some (b, x)) : x.phase = .sealed := by
  obtain ⟨-, -, -, -, hx, -⟩ := movable_some hm
  obtain ⟨-, -, -, hsealed⟩ := h.pool.lists
  have := (hsealed b).mp (movable_mem hm).1
  rwa [bufferHas_of_some hx, isSealed_iff] at this

theorem Core.pool_moveToQueue (h : Core gap s) (hg : Moving gap s) (hm : s.movable c = some (b, x)) :
    PoolLaw (s.moveToQueue c b x) := by
  obtain ⟨-, hon, -, -, hx, hold⟩ := movable_some hm
  obtain ⟨-, rfl⟩ := movable_mem hm
  have hidle := h.queue_of_idle hg x.channel
  have hwork := workOnly_moveToQueue s x.channel b x
  have hstate : ((s.moveToQueue x.channel b x).channel x.channel).state ≠ .offline := by
    rw [moveToQueue_channel hidle, if_pos rfl]
    intro hoff
    rw [sameStanding_withOp.2] at hoff
    rw [hoff] at hon
    cases hon
  refine h.pool.set hx (moveToQueue_buffer hidle) hwork.openOrder (fun c => ?_) hwork.restart
    (h.pool.stepTo hx (moved_sameData ..) ?_ (fun hy => ?_) (fun _ => .inr fun a z => h.pool.oldest_of_movable hx hold) ?_)
    ?_ (fun b' hb' => ?_) ?_
  · rw [moveToQueue_channel hidle]
    split
    next hc => rw [hc]; exact sameStanding_withOp
    next => exact .refl _
  · rw [moved_phase, moved_attempts]
    split
    · exact ⟨Nat.le_refl 1, by omega⟩
    · rfl
  · rw [not_open_of_committing (by rw [moved_phase]; split <;> rfl)] at hy
    cases hy
  · have hchannel : (x.moved (s.channel x.channel).state).channel = x.channel := by rw [moved_sameData x]
    refine channelFits_of_committing ?_ (by rwa [hchannel])
    rw [moved_phase]
    split <;> rfl
  · rw [moveToQueue_sealList]
    exact h.pool.lists.2.2.1.filter _
  · rw [moveToQueue_sealList]
    simp [hb']
  · rw [moveToQueue_sealList, moved_notSealed]
    simp

theorem Core.queues_moveToQueue (h : Core gap s) (hg : Moving gap s) (hm : s.movable c = some (b, x)) :
    QueueLaw gap (s.moveToQueue c b x) := by
  obtain ⟨-, hon, -, -, hx, -⟩ := movable_some hm
  obtain ⟨-, hxc⟩ := movable_mem hm
  have hphase := h.sealed_of_movable hm
  have hidle := h.queue_of_idle hg c
  have hbuffer := moveToQueue_buffer (b := b) (x := x) hidle
  have hslot := moveToQueue_slot (b := b) (x := x) hidle
  have hself : (s.moveToQueue c b x).channel c = _ := (moveToQueue_channel hidle c).trans (if_pos rfl)
  have hother (c' : ChannelId) (hc : c' ≠ c) : (s.moveToQueue c b x).channel c' = s.channel c' :=
    (moveToQueue_channel hidle c').trans (if_neg hc)
  have hmoved : (s.moveToQueue c b x).buffer b = some (x.moved (s.channel c).state) := (hbuffer b).trans (if_pos rfl)
  refine h.queues.append (op := ⟨.program x.page b, if (s.channel c).state = .idle then 1 else 0⟩) (c := c) (fun c' => ?_)
    (fun c' hc => by rw [hother c' hc]) ?_ (workOnly_moveToQueue ..).restart (fun b' y => ?_) (fun b' y hy hw => ?_)
    (fun i y hy _ => by rw [hslot]; exact hy) (fun i y hy _ => .inl (by rw [← hslot]; exact hy)) ?_ (fun b' hb' hmem => ?_)
    (fun i hi => by cases hi) fun a _ => rfl
  · split
    next hc => rw [hc, hself, withOp_queue hidle]
    next hc => rw [hother c' hc]
  · by_cases hi : (s.channel c).state = .idle
    · exact .inl (hidle hi)
    · refine .inr ?_
      unfold State.headNumber
      split
      next => rw [hself, withOp_number_behind hi]
      next => rw [hself, withOp_number_behind hi]
  · exact way_of_set hbuffer fun z hz => by cases hx.symm.trans hz; exact onWay_eq_false_of_sealed hphase
  · by_cases hb : b' = b
    · exact .inr (by rw [hb]; rfl)
    · rw [hbuffer, if_neg hb] at hy
      exact .inl hy
  · have hchannel : (x.moved (s.channel c).state).channel = c := by rw [moved_sameData x, hxc]
    have hpage : (x.moved (s.channel c).state).page = x.page := by rw [moved_sameData x]
    have hnumber : (if (s.channel c).queue = [] then (s.moveToQueue c b x).headNumber gap c else none).isSome
        = decide ((s.channel c).state = .idle) := by
      by_cases hi : (s.channel c).state = .idle
      · have hno : (s.moveToQueue c b x).headNumber gap c = some ((s.moveToQueue c b x).channel c).number := by
          cases gap with
          | none => rfl
          | some g =>
            obtain ⟨c', number⟩ := g
            have hne : c ≠ c' := fun hc => (hg c' number rfl).2 (hc ▸ hi)
            exact if_neg hne
        rw [if_pos (hidle hi), hno, hi]
        rfl
      · rw [decide_eq_false hi]
        by_cases hgc : ∃ number, gap = some (c, number)
        · obtain ⟨number, hgc⟩ := hgc
          obtain ⟨rfl, -⟩ := hg c number hgc
          have hhead : (s.moveToQueue c b x).headNumber gap c = none := by rw [hgc]; exact if_pos rfl
          rw [hhead, ite_self]
          rfl
        · obtain ⟨-, hworking, -⟩ := h.channels.lawful (not_exists.mp hgc)
          have hbusy : (s.channel c).state.working = true := by
            cases hs : (s.channel c).state with
            | idle => exact absurd hs hi
            | busy => rfl
            | quiescing | offline => rw [hs] at hon; cases hon
          rw [if_neg (hworking hbusy).1]
          rfl
    rw [opFits_program_iff rfl]
    refine ⟨?_, _, hmoved, hchannel, hpage, moved_attempts .., ?_⟩
    · unfold AttemptsFit
      rw [hnumber]
      by_cases hi : (s.channel c).state = .idle <;> simp [hi]
    · rw [moved_phase, hnumber]
      by_cases hi : (s.channel c).state = .idle <;> simp [hi]
  · obtain rfl : b' = b := (Option.some.inj hb').symm
    obtain ⟨c', a, ha, hab⟩ := mem_queuedBuffers.mp hmem
    obtain ⟨y, hy, hw, -⟩ := h.queues.onWay_of_ref ha hab
    cases hx.symm.trans hy
    rw [onWay_eq_false_of_sealed hphase] at hw
    cases hw

theorem Core.moveToQueue (h : Core gap s) (hg : Moving gap s) (hm : s.movable c = some (b, x)) :
    Core gap (s.moveToQueue c b x) ∧ Moving gap (s.moveToQueue c b x) := by
  obtain ⟨-, hon, hroom, -, hx, -⟩ := movable_some hm
  have hidle := h.queue_of_idle hg c
  have hroom' := (queueHasRoom_iff s c).mp hroom
  have hself : (s.moveToQueue c b x).channel c = _ := (moveToQueue_channel hidle c).trans (if_pos rfl)
  refine ⟨⟨h.pool_moveToQueue hg hm, ?_, h.queues_moveToQueue hg hm, ?_⟩, fun c' number hgap => ⟨(hg c' number hgap).1, ?_⟩⟩
  · refine SlotLaw.keep h.slots (moveToQueue_slot hidle) fun b' q => coming_of_set hx (moveToQueue_buffer hidle) (fun _ => ?_)
      fun n hn => ?_
    · rw [moved_phase]
      split <;> rfl
    · rw [moved_sameData x]
      exact hn
  · refine h.channels.set (c := c) (fun c' hc => (moveToQueue_channel hidle c').trans (if_neg hc)) (fun ⟨number, hgc⟩ => ?_) fun hno => ?_
    · rw [hself]
      exact withOp_resting (h.channels.resting hgc) (hg c number hgc).2 hroom'
    · rw [hself]
      exact withOp_lawful (h.channels.lawful hno) hon hroom'
  · rw [moveToQueue_channel hidle]
    split
    next hc =>
      rw [withOp_state]
      split
      next => exact fun h => by cases h
      next hi => exact hi
    next => exact (hg c' number hgap).2

theorem Core.moves (h : Core gap s) (hg : Moving gap s) (hm : Moves c s t) : Core gap t ∧ Moving gap t := by
  induction hm with
  | stuck s => exact ⟨h, hg⟩
  | move b x hmovable _ ih =>
    obtain ⟨hcore, hmoving⟩ := h.moveToQueue hg hmovable
    exact ih hcore hmoving

theorem Core.tryEnqueue (h : Core gap s) (hg : Moving gap s) (c : ChannelId) : Core gap (s.tryEnqueue c) ∧ Moving gap (s.tryEnqueue c) :=
  h.moves hg (moves_tryEnqueue s c)

/-! #### Several seals, and the end of a grant (R31, R36) -/

theorem Core.sealBuffer (h : Core none s) (b : BufferId) : Core none (s.sealBuffer b) := by
  unfold State.sealBuffer
  split
  next x hx =>
    split
    next ho =>
      split
      next hon => exact ((h.listSealed hx ho hon).tryEnqueue (moving_none _) _).1
      next hoff => exact h.holdOpen hx ho (Bool.eq_false_iff.mpr hoff)
    next => exact h
  next => exact h

theorem Core.sealAllOf (h : Core none s) (bs : List BufferId) : Core none (s.sealAllOf bs) := by
  unfold State.sealAllOf
  induction bs generalizing s with
  | nil => exact h
  | cons b bs ih => exact ih (h.sealBuffer b)

end Move

end Sys2Proof.Machine

/-! ### An operation leaves its queue and its owner is told (R41, R42, R55 to R57, R66, R67, R79, R81, R88) -/

namespace Sys2Proof.Machine

section Standing
variable {s t : State} {gap gap' : Gap} {c : ChannelId} {ch : Channel} {b : BufferId} {x : Buffer}

/-- The pool does not see what a channel does while it stands the same. -/
theorem PoolLaw.standing (h : PoolLaw s) (hb : ∀ b, t.buffer b = s.buffer b) (ho : t.openOrder = s.openOrder)
    (hl : t.sealList = s.sealList) (hst : ∀ c, SameStanding (s.channel c).state (t.channel c).state) (hr : t.restart = s.restart) :
    PoolLaw t := by
  obtain ⟨-, hlive, hnodup, hsealed⟩ := h.lists
  refine h.step (by rw [ho]) (fun b => by rw [ho, hb, hlive]) (fun b y hy => ?_) (by rwa [hl]) fun b => by
    rw [hl, hsealed, State.bufferHas, State.bufferHas, hb]
  rw [hb] at hy
  exact ⟨y, hy, h.same hy (by rw [channelFits_congr (hst _) hr]; exact h.holds b y hy)⟩

theorem PoolLaw.setChannel (h : PoolLaw s) (hst : SameStanding (s.channel c).state ch.state) : PoolLaw (s.setChannel c ch) := by
  refine h.standing (fun b => State.setChannel_buffer ..) (State.setChannel_openOrder ..) (State.setChannel_sealList ..)
    (fun c' => ?_) (State.setChannel_restart ..)
  rw [State.setChannel_channel]
  split
  next hc => rw [hc]; exact hst
  next => exact .refl _

theorem coming_congr (h : ∀ b, t.buffer b = s.buffer b) {b : BufferId} {q : ReqId} (hb : s.Coming b q) : t.Coming b q := by
  obtain ⟨y, hy, hc, hw⟩ := hb
  exact ⟨y, (h b).trans hy, hc, hw⟩

theorem SlotLaw.setChannel (h : SlotLaw s) (c : ChannelId) (ch : Channel) : SlotLaw (s.setChannel c ch) :=
  SlotLaw.keep h (fun _ => State.setChannel_slot ..) fun _ _ => coming_congr fun _ => State.setChannel_buffer ..

/-- Another gap with the same numbers of the heads. -/
theorem QueueLaw.regap (h : QueueLaw gap s) (hn : ∀ c, (s.channel c).queue = [] ∨ s.headNumber gap' c = s.headNumber gap c) :
    QueueLaw gap' s where
  fits := fun c => by
    rcases hn c with hq | hn
    · rw [hq]; trivial
    · rw [hn]; exact h.fits c
  buffersOnce := h.buffersOnce
  slotsOnce := h.slotsOnce
  owned := h.owned
  awaited := h.awaited
  clears := h.clears

/-- A gap at a channel with an empty queue opens and closes freely. -/
theorem QueueLaw.regap_empty (h : QueueLaw gap s) (hgap : GapAt gap c) (hgap' : GapAt gap' c) (hq : (s.channel c).queue = []) :
    QueueLaw gap' s := by
  refine h.regap fun c' => ?_
  by_cases hc : c' = c
  · exact .inl (hc ▸ hq)
  · exact .inr ((headNumber_of_gapAt hgap' hc).trans (headNumber_of_gapAt hgap hc).symm)

theorem gapAt_none (c : ChannelId) : GapAt none c := fun _ _ h => by cases h

theorem gapAt_some (c : ChannelId) (number : Option (BitVec 8)) : GapAt (some (c, number)) c := fun _ _ h => by cases h; rfl

/-- The channel of the gap changes, the other stays. -/
theorem ChannelLaw.toGap (h : ChannelLaw gap s) (hgap : GapAt gap c) (number : Option (BitVec 8))
    (ht : ∀ c', c' ≠ c → t.channel c' = s.channel c') (hr : (t.channel c).resting) : ChannelLaw (some (c, number)) t := by
  intro c'
  by_cases hc : c' = c
  · subst hc
    rw [if_pos ((atGap_iff _ c').mpr ⟨number, rfl⟩)]
    exact hr
  · have hno : ¬ ∃ n, (some (c, number) : Gap) = some (c', n) := fun ⟨n, hn⟩ => hc (by cases hn; rfl)
    rw [if_neg (fun h => hno ((atGap_iff _ c').mp h)), ht c' hc]
    exact h.lawful fun n hn => hc (hgap c' n hn)

theorem ChannelLaw.close (h : ChannelLaw gap s) (hgap : GapAt gap c) (ht : ∀ c', c' ≠ c → t.channel c' = s.channel c')
    (hl : (t.channel c).lawful) : ChannelLaw none t := by
  intro c'
  by_cases hc : c' = c
  · subst hc; exact hl
  · have hlaw : (t.channel c').lawful := by
      rw [ht c' hc]
      exact h.lawful fun n hn => hc (hgap c' n hn)
    exact hlaw

end Standing

/-- The channel after its head is gone, while nothing runs. -/
structure HeadGone (ch ch' : Channel) (rest : List Op) : Prop where
  queue : ch'.queue = rest
  state : ch'.state = ch.state
  resting : ch'.resting

section Leave
variable {s t : State} {gap : Gap} {c : ChannelId} {ch : Channel} {op : Op} {rest : List Op} {b : BufferId} {i : SlotId}
  {pg : BitVec 16}

/-- What the laws of a queue need when its head leaves. -/
theorem Core.leave (h : Core gap s) (hgap : GapAt gap c) (hq : (s.channel c).queue = op :: rest)
    (hch : HeadGone (s.channel c) ch rest) (hpool : PoolLaw t) (hslots : SlotLaw t)
    (hchannel : ∀ c', t.channel c' = (s.setChannel c ch).channel c') (hr : t.restart = s.restart) (hothers : OthersKept s t op)
    (hbuffer : ∀ b y, op.bufferRef = some b → t.buffer b = some y → y.onWay = false)
    (hslot : ∀ i y, op.slotRef = some i → t.slot i = some y → y.fetchesRead = false) : Core (some (c, none)) t := by
  have hself : t.channel c = ch := by rw [hchannel, State.setChannel_channel_self]
  have hother (c' : ChannelId) (hc : c' ≠ c) : t.channel c' = s.channel c' := by
    rw [hchannel, State.setChannel_channel, if_neg hc]
  refine ⟨hpool, hslots, h.queues.leave hgap hq (fun c' => ?_) (fun c' hc => by rw [hother c' hc]) hr hothers hbuffer hslot,
    h.channels.toGap hgap none hother (by rw [hself]; exact hch.resting)⟩
  split
  next hc => rw [hc, hself, hch.queue]
  next hc => rw [hother c' hc]

theorem HeadGone.standing (hch : HeadGone (s.channel c) ch rest) : SameStanding (s.channel c).state ch.state := by
  rw [hch.state]
  exact .refl _

/-- A CLEAR leaves: nobody is told. -/
theorem Core.leave_clear (h : Core gap s) (hgap : GapAt gap c) (hq : (s.channel c).queue = op :: rest)
    (hch : HeadGone (s.channel c) ch rest) {sector : BitVec 12} {q : ReqId} (hk : op.kind = .clear sector q)
    (ht : SameCore (s.setChannel c ch) t) : Core (some (c, none)) t := by
  refine Core.of_same (s := s.setChannel c ch) ?_ ht
  refine h.leave hgap hq hch (h.pool.setChannel hch.standing) (SlotLaw.setChannel h.slots c ch) (fun _ => rfl)
    (State.setChannel_restart ..) ?_ (fun b y hb => by simp [Op.bufferRef, hk] at hb) fun i y hi => by simp [Op.slotRef, hk] at hi
  exact ⟨fun b x hx _ _ => (State.setChannel_buffer ..).trans hx, fun i x hx _ _ => (State.setChannel_slot ..).trans hx,
    fun b y hy _ _ => (State.setChannel_buffer ..).symm.trans hy, fun i y hy _ _ => (State.setChannel_slot ..).symm.trans hy⟩

/-- A FETCH leaves: its slot no longer fetches. -/
theorem Core.leave_fetch (h : Core gap s) (hgap : GapAt gap c) (hq : (s.channel c).queue = op :: rest)
    (hch : HeadGone (s.channel c) ch rest) {o n : Nat} (hk : op.kind = .fetch pg o n i) {y : Slot} (hy : y.inRanges = true)
    (hp : y.phase ≠ .fetching) (ht : SameCore ((s.setChannel c ch).setSlot i (some y)) t) : Core (some (c, none)) t := by
  refine Core.of_same (s := (s.setChannel c ch).setSlot i (some y)) ?_ ht
  have hbuffer (b : BufferId) : ((s.setChannel c ch).setSlot i (some y)).buffer b = s.buffer b := State.setChannel_buffer ..
  have hslot (j : SlotId) : ((s.setChannel c ch).setSlot i (some y)).slot j = if j = i then some y else s.slot j := by
    rw [State.setSlot_slot, State.setChannel_slot]
  have hno : y.fetchesRead = false := Bool.eq_false_iff.mpr fun hf => hp ((fetchesRead_iff y).mp hf).1
  have href : op.slotRef = some i := by simp [Op.slotRef, hk]
  have hne {j : SlotId} (hj : op.slotRef ≠ some j) : j ≠ i := fun h => hj (h ▸ href)
  refine h.leave hgap hq hch ?_ ?_ (fun c' => State.setSlot_channel ..) (State.setChannel_restart ..) ?_
    (fun b y hb => by simp [Op.bufferRef, hk] at hb) fun j z hj hz => ?_
  · exact (h.pool.setChannel hch.standing).standing (fun b => rfl) rfl rfl (fun c => by rw [State.setSlot_channel]; exact .refl _) rfl
  · refine Waits.mono (Waits.set h.slots hslot hy fun b hb => absurd hb (not_waitsOn_of_phase hp)) fun b q => ?_
    exact coming_congr hbuffer
  · exact ⟨fun b x hx _ _ => (hbuffer b).trans hx, fun j x hx _ hj => by rw [hslot, if_neg (hne hj), hx],
      fun b z hz _ _ => (hbuffer b).symm.trans hz, fun j z hz _ hj => by rwa [hslot, if_neg (hne hj)] at hz⟩
  · obtain rfl : i = j := Option.some.inj (href.symm.trans hj)
    rw [hslot, if_pos rfl] at hz
    cases hz
    exact hno

/-- A PROGRAM leaves and its buffer goes HELD. -/
theorem Core.leave_held (h : Core gap s) (hgap : GapAt gap c) (hq : (s.channel c).queue = op :: rest)
    (hch : HeadGone (s.channel c) ch rest) (hk : op.kind = .program pg b) {x : Buffer} (hx : s.buffer b = some x) (hw : x.onWay = true)
    {cause : HoldCause} (ha : (BufferPhase.held cause).attemptsFit x.attempts)
    (hoff : cause = .channelOffline → (s.channel x.channel).state.online = false)
    (ht : SameCore ((s.setChannel c ch).holdBuffer b cause) t) : Core (some (c, none)) t := by
  refine Core.of_same (s := (s.setChannel c ch).holdBuffer b cause) ?_ ht
  have hx1 : (s.setChannel c ch).buffer b = some x := (State.setChannel_buffer ..).trans hx
  have hpool1 := h.pool.setChannel hch.standing
  have hbuffer (b' : BufferId) : ((s.setChannel c ch).holdBuffer b cause).buffer b'
      = if b' = b then some (x.inPhase (.held cause)) else s.buffer b' := by
    rw [holdBuffer_set hx1, State.setChannel_buffer]
  have hchannel (c' : ChannelId) := holdBuffer_channel (s.setChannel c ch) b cause c'
  have hqueues := sameQueues_holdBuffer (s.setChannel c ch) b cause
  have hr : ((s.setChannel c ch).holdBuffer b cause).restart = (s.setChannel c ch).restart := by rw [holdBuffer_rest]
  have hslots : SlotsBy _ (s.setChannel c ch) _ := slotsBy_holdBuffer (s.setChannel c ch) b cause
  have href : op.bufferRef = some b := by simp [Op.bufferRef, hk]
  have hne {b' : BufferId} (hb : op.bufferRef ≠ some b') : b' ≠ b := fun h => hb (h ▸ href)
  have hclosed : x.isSealed = false := by
    rcases (onWay_iff x).mp hw with hp | hp <;> simp [Buffer.isSealed, hp]
  refine h.leave hgap hq hch ?_ (SlotLaw.hold (SlotLaw.setChannel h.slots c ch) hx1 cause) hchannel
    (hr.trans (State.setChannel_restart ..)) ?_ (fun b' y hb hy => ?_) fun i y hi => by simp [Op.slotRef, hk] at hi
  · refine hpool1.set hx1 (holdBuffer_set hx1) hqueues.openOrder (fun c => by rw [hchannel]; exact .refl _) hr
      (hpool1.stepTo hx1 rfl ha (fun hy => by cases hy) (fun hy => ?_) ?_) (by rw [hqueues.sealList]; exact hpool1.lists.2.2.1)
      (fun b' _ => by rw [hqueues.sealList]) ?_
    · rw [onWay_eq_false_of_held rfl] at hy
      cases hy
    · cases cause with
      | programFailed => rfl
      | channelOffline =>
        have hstate : ((s.setChannel c ch).channel x.channel).state.online = false := by
          rw [State.setChannel_channel]
          split
          next hc => rw [hch.state, ← hc]; exact hoff rfl
          next => exact hoff rfl
        simp only [State.channelFits, hchannel, hstate, Bool.not_false]
    · rw [hqueues.sealList]
      exact iff_of_false (hpool1.not_listed hx1 hclosed) Bool.false_ne_true
  · refine ⟨fun b' z hz _ hb => by rw [hbuffer, if_neg (hne hb), hz], fun j z hz hf _ => ?_,
      fun b' z hz _ hb => by rwa [hbuffer, if_neg (hne hb)] at hz, fun j z hz hf _ => ?_⟩
    · exact hslots.reads ((State.setChannel_slot ..).trans hz) hf
    · exact (State.setChannel_slot ..).symm.trans (hslots.readsBack hz hf)
  · obtain rfl : b = b' := Option.some.inj (href.symm.trans hb)
    rw [hbuffer, if_pos rfl] at hy
    cases hy
    exact onWay_eq_false_of_held rfl

theorem programSucceeded_buffer (s : State) (b b' : BufferId) :
    (s.programSucceeded b).buffer b' = if b' = b then none else s.buffer b' := State.setBuffer_buffer ..

theorem programSucceeded_channel (s : State) (b : BufferId) (c : ChannelId) : (s.programSucceeded b).channel c = s.channel c := by
  cases c <;> rfl

theorem programSucceeded_slot (s : State) (b : BufferId) (i : SlotId) :
    (s.programSucceeded b).slot i = (s.slot i).map (Slot.memberProgrammed b s.params.holdTime) := mapSlots_slot ..

/-- A PROGRAM leaves and its buffer becomes FREE. -/
theorem Core.leave_programmed (h : Core gap s) (hgap : GapAt gap c) (hq : (s.channel c).queue = op :: rest)
    (hch : HeadGone (s.channel c) ch rest) (hk : op.kind = .program pg b) {x : Buffer} (hx : s.buffer b = some x) (hw : x.onWay = true)
    (ht : SameCore ((s.setChannel c ch).programSucceeded b) t) : Core (some (c, none)) t := by
  refine Core.of_same (s := (s.setChannel c ch).programSucceeded b) ?_ ht
  have hx1 : (s.setChannel c ch).buffer b = some x := (State.setChannel_buffer ..).trans hx
  have hpool1 := h.pool.setChannel hch.standing
  have hbuffer (b' : BufferId) : ((s.setChannel c ch).programSucceeded b).buffer b' = if b' = b then none else s.buffer b' := by
    rw [programSucceeded_buffer, State.setChannel_buffer]
  have hchannel (c' : ChannelId) := programSucceeded_channel (s.setChannel c ch) b c'
  have hslot := programSucceeded_slot (s.setChannel c ch) b
  have hslots : SlotsBy _ (s.setChannel c ch) ((s.setChannel c ch).programSucceeded b) :=
    ⟨leavesReads_memberProgrammed b (s.setChannel c ch).params.holdTime, hslot⟩
  have href : op.bufferRef = some b := by simp [Op.bufferRef, hk]
  have hne {b' : BufferId} (hb : op.bufferRef ≠ some b') : b' ≠ b := fun h => hb (h ▸ href)
  have hclosed : x.isSealed = false := by
    rcases (onWay_iff x).mp hw with hp | hp <;> simp [Buffer.isSealed, hp]
  refine h.leave hgap hq hch ?_ ?_ hchannel (State.setChannel_restart ..) ?_ (fun b' y hb hy => ?_)
    fun i y hi => by simp [Op.slotRef, hk] at hi
  · exact hpool1.freed hx1 hclosed (programSucceeded_buffer _ b) rfl (fun c => by rw [hchannel]; exact .refl _) rfl rfl
  · refine Waits.programmed (SlotLaw.setChannel h.slots c ch) hslot fun b' q hb hcoming => ?_
    obtain ⟨y, hy, hc, hwritten⟩ := hcoming
    exact ⟨y, by rw [programSucceeded_buffer, if_neg hb, hy], hc, hwritten⟩
  · refine ⟨fun b' z hz _ hb => by rw [hbuffer, if_neg (hne hb), hz], fun j z hz hf _ => ?_,
      fun b' z hz _ hb => by rwa [hbuffer, if_neg (hne hb)] at hz, fun j z hz hf _ => ?_⟩
    · exact hslots.reads ((State.setChannel_slot ..).trans hz) hf
    · exact (State.setChannel_slot ..).symm.trans (hslots.readsBack hz hf)
  · obtain rfl : b = b' := Option.some.inj (href.symm.trans hb)
    rw [hbuffer, if_pos rfl] at hy
    cases hy

end Leave

end Sys2Proof.Machine

/-! ### A channel in the gap goes on: starts and idling (R54, R75, R78, R79, R81) -/

namespace Sys2Proof.Machine

section Start
variable {s t : State} {c : ChannelId} {number : Option (BitVec 8)} {op : Op} {rest : List Op}

/-- A channel that is not OFFLINE starts an operation (R78). -/
theorem started_lawful {ch : Channel} (hr : ch.resting) (hq : ch.queue = op :: rest) (hs : ch.streak ≤ 14) (op' : Op)
    (timeout : Micros) (request : StoreRequest) : (ch.started op' rest timeout request).lawful := by
  obtain ⟨hlen, -, -⟩ := hr
  have hworking : (ch.started op' rest timeout request).state.working = true := by
    simp only [Channel.started]
    split <;> rfl
  rw [hq] at hlen
  refine ⟨hlen, fun _ => ⟨List.cons_ne_nil _ _, Option.some_ne_none _⟩, fun hw => ?_, Nat.le_trans hs (by decide), fun _ => hs⟩
  rw [hworking] at hw
  cases hw

theorem sameStanding_started {ch : Channel} (hne : ch.state ≠ .offline) (op' : Op) (timeout : Micros) (request : StoreRequest) :
    SameStanding ch.state (ch.started op' rest timeout request).state := by
  simp only [Channel.started]
  cases hs : ch.state with
  | offline => exact absurd hs hne
  | idle | busy => exact ⟨rfl, by simp⟩
  | quiescing => exact .refl _

/-- What the laws need when the head of the channel in the gap starts. -/
theorem Core.started (h : Core (some (c, number)) s) (hq : (s.channel c).queue = op :: rest) (hs : (s.channel c).streak ≤ 14)
    {timeout : Micros} {request : StoreRequest} (hpool : PoolLaw t) (hslots : SlotLaw t)
    (hchannel : ∀ c', t.channel c' = (s.setChannel c ((s.channel c).started op.next rest timeout request)).channel c')
    (hr : t.restart = s.restart) (hothers : OthersKept s t op)
    (hfit : t.opFits c (some ((s.channel c).number + 1)) op.next = true) : Core none t := by
  have hself : t.channel c = (s.channel c).started op.next rest timeout request := by
    rw [hchannel, State.setChannel_channel_self]
  have hother (c' : ChannelId) (hc : c' ≠ c) : t.channel c' = s.channel c' := by
    rw [hchannel, State.setChannel_channel, if_neg hc]
  have hresting := h.channels.resting (c := c) rfl
  refine ⟨hpool, hslots, h.queues.start (op' := op.next) hq rfl (fun c' => ?_) (fun c' hc => by rw [hother c' hc]) hr hothers
    (by rw [hself]; exact hfit), h.channels.close (gapAt_some c number) hother ?_⟩
  · split
    next hc => rw [hc, hself]; rfl
    next hc => rw [hother c' hc]
  · rw [hself]
    exact started_lawful hresting hq hs ..

theorem attemptsFit_next (ha : op.attempts ≤ 7) (n : BitVec 8) : AttemptsFit (some n) op.next.attempts := by
  change 1 ≤ op.attempts + 1 ∧ op.attempts + 1 ≤ 8
  omega

theorem inRanges_numbered {x : Slot} {r : ReadWork} (hx : x.inRanges = true) (hw : x.work = .read r)
    (number : Option (BitVec 8)) : Slot.inRanges { x with work := .read { r with number := number } } = true := by
  obtain ⟨ticket, requester, work, phase⟩ := x
  subst hw
  cases phase <;> exact hx

/-- The head of the channel in the gap starts an attempt (R78). -/
theorem Core.startHead (h : Core (some (c, number)) s) (hq : (s.channel c).queue = op :: rest) (ha : op.attempts ≤ 7)
    (hs : (s.channel c).streak ≤ 14) (hne : (s.channel c).state ≠ .offline) : Core none (s.startHead c) := by
  have hfits := h.queues.fits c
  rw [hq] at hfits
  obtain ⟨hfit, -⟩ := hfits
  have hhead : s.headNumber (some (c, number)) c = number := if_pos rfl
  rw [hhead] at hfit
  have hnext := attemptsFit_next ha ((s.channel c).number + 1)
  rw [startHead_cons hq]
  generalize hch : (s.channel c).started op.next rest (s.params.opTimeout * 1000) (s.requestOf op.kind) = ch
  have hpool1 : PoolLaw (s.setChannel c ch) := h.pool.setChannel (hch ▸ sameStanding_started hne ..)
  have hslots1 : SlotLaw (s.setChannel c ch) := SlotLaw.setChannel h.slots c ch
  have hbuffer (b : BufferId) : (s.setChannel c ch).buffer b = s.buffer b := State.setChannel_buffer ..
  have hslot (i : SlotId) : (s.setChannel c ch).slot i = s.slot i := State.setChannel_slot ..
  cases hk : op.kind with
  | clear sector q =>
    rw [attemptStarted_clear (op := op.next) hk]
    refine h.started hq hs hpool1 hslots1 (fun c' => by rw [hch]) (State.setChannel_restart ..) ?_ ?_
    · exact ⟨fun b x hx _ _ => (hbuffer b).trans hx, fun i x hx _ _ => (hslot i).trans hx, fun b y hy _ _ => (hbuffer b).symm.trans hy,
        fun i y hy _ _ => (hslot i).symm.trans hy⟩
    · exact (opFits_clear_iff (op := op.next) hk).mpr ⟨hnext, ((opFits_clear_iff hk).mp hfit).2⟩
  | fetch pg o n i =>
    obtain ⟨-, x, hx, hp, overlay, hw⟩ := (opFits_fetch_iff hk).mp hfit
    have hx1 : (s.setChannel c ch).slot i = some x := (hslot i).trans hx
    rw [attemptStarted_fetch (op := op.next) hk hx1 hw]
    have href : op.slotRef = some i := by simp [Op.slotRef, hk]
    have hne' {j : SlotId} (hj : op.slotRef ≠ some j) : j ≠ i := fun h => hj (h ▸ href)
    have hset := State.setSlot_slot (s.setChannel c ch) i
      (some { x with work := .read { (⟨c, pg, o, n, overlay, number⟩ : ReadWork) with number := some ((s.channel c).number + 1) } })
    refine h.started hq hs ?_ ?_ (fun c' => by rw [State.setSlot_channel, hch]) (State.setChannel_restart ..) ?_ ?_
    · exact hpool1.standing (fun b => rfl) rfl rfl (fun c => by rw [State.setSlot_channel]; exact .refl _) rfl
    · refine Waits.mono (Waits.set hslots1 hset (inRanges_numbered ((hslots1 i x hx1).1) hw _) fun b hb => ?_) fun b q hb => hb
      obtain ⟨m, hm, -⟩ := hb
      cases hm
    · exact ⟨fun b x hx _ _ => (hbuffer b).trans hx, fun j z hz _ hj => by rw [hset, if_neg (hne' hj), hslot, hz],
        fun b y hy _ _ => (hbuffer b).symm.trans hy, fun j z hz _ hj => by rwa [hset, if_neg (hne' hj), hslot] at hz⟩
    · exact (opFits_fetch_iff (op := op.next) hk).mpr ⟨hnext, _, (hset i).trans (if_pos rfl), hp, overlay, rfl⟩
  | program pg b =>
    obtain ⟨-, x, hx, hc, hpg, hat, hp⟩ := (opFits_program_iff hk).mp hfit
    have hx1 : (s.setChannel c ch).buffer b = some x := (hbuffer b).trans hx
    have hw : x.onWay = true := by
      rw [onWay_iff, hp]
      cases number <;> simp
    rw [attemptStarted_program (op := op.next) hk hx1]
    have href : op.bufferRef = some b := by simp [Op.bufferRef, hk]
    have hne' {b' : BufferId} (hb : op.bufferRef ≠ some b') : b' ≠ b := fun h => hb (h ▸ href)
    have hset := State.setBuffer_buffer (s.setChannel c ch) b (some { x with phase := .programming, attempts := op.next.attempts })
    have hstate : ((s.setChannel c ch).channel x.channel).state ≠ .offline := by
      rw [hc, State.setChannel_channel_self, ← hch]
      simp only [Channel.started]
      split <;> exact fun h => by cases h
    refine h.started hq hs ?_ ?_ (fun c' => by rw [State.setBuffer_channel, hch]) (State.setChannel_restart ..) ?_ ?_
    · refine hpool1.set hx1 hset rfl (fun c => by rw [State.setBuffer_channel]; exact .refl _) rfl
        (hpool1.stepTo hx1 rfl hnext (fun hy => by cases hy) (fun _ => .inl hw) ?_) hpool1.lists.2.2.1 (fun b' _ => Iff.rfl) ?_
      · refine channelFits_of_committing rfl ?_
        rw [State.setBuffer_channel]
        exact hstate
      · refine iff_of_false (hpool1.not_listed hx1 ?_) Bool.false_ne_true
        rcases (onWay_iff x).mp hw with hp | hp <;> simp [Buffer.isSealed, hp]
    · exact SlotLaw.keep hslots1 (fun i => rfl) fun b' q => coming_of_set hx1 hset (fun _ => rfl) fun _ h => h
    · exact ⟨fun b' z hz _ hb => by rw [hset, if_neg (hne' hb), hbuffer, hz], fun i x hx _ _ => (hslot i).trans hx,
        fun b' z hz _ hb => by rwa [hset, if_neg (hne' hb), hbuffer] at hz, fun i y hy _ _ => (hslot i).symm.trans hy⟩
    · exact (opFits_program_iff (op := op.next) hk).mpr ⟨hnext, _, (hset b).trans (if_pos rfl), hc, hpg, rfl, rfl⟩

/-- A BUSY channel with nothing queued goes IDLE (R79 step 5). -/
theorem Core.idle (h : Core (some (c, number)) s) (hq : (s.channel c).queue = []) (hb : (s.channel c).state = .busy)
    (hs : (s.channel c).streak ≤ 14) : Core none (s.setChannel c { s.channel c with state := .idle }) := by
  have hstanding : SameStanding (s.channel c).state .idle := by
    rw [hb]
    exact ⟨rfl, by simp⟩
  have hresting := h.channels.resting (c := c) rfl
  have hother (c' : ChannelId) (hc : c' ≠ c) : (s.setChannel c { s.channel c with state := .idle }).channel c' = s.channel c' := by
    rw [State.setChannel_channel, if_neg hc]
  have hsame (c' : ChannelId) : ((s.setChannel c { s.channel c with state := .idle }).channel c').queue = (s.channel c').queue
      ∧ ((s.setChannel c { s.channel c with state := .idle }).channel c').number = (s.channel c').number := by
    rw [State.setChannel_channel]
    split
    next hc => rw [hc]; exact ⟨rfl, rfl⟩
    next => exact ⟨rfl, rfl⟩
  refine ⟨h.pool.setChannel hstanding, SlotLaw.setChannel h.slots c _, ?_, h.channels.close (gapAt_some c number) hother ?_⟩
  · refine (h.queues.regap_empty (gapAt_some c number) (gapAt_none c) hq).same ?_
    exact sameOwners_of_aside hsame (State.setChannel_restart ..) (slotsBy_id fun _ => State.setChannel_slot ..)
      (fun b x hx _ => (State.setChannel_buffer ..).trans hx) fun b y hy _ => (State.setChannel_buffer ..).symm.trans hy
  · rw [State.setChannel_channel_self]
    exact ⟨hresting.1, fun hw => (by cases hw), fun _ => ⟨hq, hresting.2.1⟩, hresting.2.2, fun _ => hs⟩

end Start

end Sys2Proof.Machine

/-! ### The offline entry keeps the core (R43, R57, R67, R86 to R88) -/

namespace Sys2Proof.Machine

theorem SameCore.refl (s : State) : SameCore s s := ⟨rfl, rfl, rfl, rfl, rfl, rfl, rfl⟩

section Commute
variable {s : State} {c : ChannelId}

theorem setChannel_same (s : State) (c : ChannelId) : s.setChannel c (s.channel c) = s := by cases c <;> rfl

/-- Two changes that do not see each other. -/
theorem append_setChannel (e : Event) (s : State) (c : ChannelId) (ch : Channel) :
    (s.setChannel c ch).append e = (s.append e).setChannel c ch := by
  by_cases h : s.log.length < 16
  · rw [append_kept h, append_kept (by rwa [State.setChannel_log])]
    cases c <;> rfl
  · rw [append_counted (Nat.not_lt.mp h), append_counted (by rw [State.setChannel_log]; exact Nat.not_lt.mp h)]
    cases c <;> rfl

theorem holdBuffer_setChannel (b : BufferId) (cause : HoldCause) (ch : Channel) :
    (s.setChannel c ch).holdBuffer b cause = (s.holdBuffer b cause).setChannel c ch := by
  cases hx : s.buffer b with
  | none =>
    simp only [State.holdBuffer, State.modifyBuffer, State.setChannel_buffer, hx]
    cases c <;> rfl
  | some x =>
    rw [holdBuffer_eq hx, holdBuffer_eq ((State.setChannel_buffer ..).trans hx)]
    cases c <;> rfl

theorem fetchRemoved_setChannel (i : SlotId) (ch : Channel) :
    (s.setChannel c ch).fetchRemoved i = (s.fetchRemoved i).setChannel c ch := by
  unfold State.fetchRemoved
  rw [State.setChannel_slot]
  cases s.slot i with
  | none => rfl
  | some x =>
    obtain ⟨ticket, requester, work, phase⟩ := x
    cases phase with
    | fetching =>
      cases work with
      | read r => cases c <;> rfl
      | sync m => rfl
    | ready | failed => rfl

theorem opRemoved_setChannel (op : Op) (ch : Channel) :
    State.opRemoved c (s.setChannel c ch) op = (State.opRemoved c s op).setChannel c ch := by
  unfold State.opRemoved
  split
  next => exact fetchRemoved_setChannel ..
  next => exact holdBuffer_setChannel ..
  next => exact append_setChannel ..

theorem foldl_opRemoved_setChannel (ops : List Op) (s : State) (ch : Channel) :
    ops.foldl (State.opRemoved c) (s.setChannel c ch) = (ops.foldl (State.opRemoved c) s).setChannel c ch := by
  induction ops generalizing s with
  | nil => rfl
  | cons op ops ih => rw [List.foldl_cons, List.foldl_cons, opRemoved_setChannel, ih]

theorem foldl_holdBuffer_setChannel (bs : List BufferId) (cause : HoldCause) (s : State) (ch : Channel) :
    bs.foldl (fun t b => t.holdBuffer b cause) (s.setChannel c ch)
      = (bs.foldl (fun t b => t.holdBuffer b cause) s).setChannel c ch := by
  induction bs generalizing s with
  | nil => rfl
  | cons b bs ih => rw [List.foldl_cons, List.foldl_cons, holdBuffer_setChannel, ih]

theorem holdSealed_setChannel (ch : Channel) : (s.setChannel c ch).holdSealed c = (s.holdSealed c).setChannel c ch := by
  have hlist (bs : List BufferId) : ({ s.setChannel c ch with sealList := bs } : State) = ({ s with sealList := bs } : State).setChannel c ch := by
    cases c <;> rfl
  simp only [State.holdSealed, State.setChannel_sealList, State.bufferHas, State.setChannel_buffer]
  rw [hlist, foldl_holdBuffer_setChannel]

end Commute

section Offline
variable {s t : State} {c : ChannelId} {ch : Channel} {number : Option (BitVec 8)} {op : Op}

/-- The buffers and lists of the pool stay, and every buffer fits where its channel stands now. -/
theorem PoolLaw.refit (h : PoolLaw s) (hb : ∀ b, t.buffer b = s.buffer b) (ho : t.openOrder = s.openOrder)
    (hl : t.sealList = s.sealList) (hfit : ∀ b x, s.buffer b = some x → t.channelFits x = true) : PoolLaw t := by
  obtain ⟨-, hlive, hnodup, hsealed⟩ := h.lists
  refine h.step (by rw [ho]) (fun b => by rw [ho, hb, hlive]) (fun b y hy => ?_) (by rwa [hl]) fun b => by
    rw [hl, hsealed, State.bufferHas, State.bufferHas, hb]
  rw [hb] at hy
  exact ⟨y, hy, h.same hy (hfit b y hy)⟩

/-- A channel that is not OFFLINE begins to quiesce: every buffer fits. -/
theorem PoolLaw.quiesce (h : PoolLaw s) (hne : (s.channel c).state ≠ .offline) (hch : ch.state = .quiescing) :
    PoolLaw (s.setChannel c ch) := by
  refine h.refit (fun b => State.setChannel_buffer ..) (State.setChannel_openOrder ..) (State.setChannel_sealList ..) fun b x hx => ?_
  have hfit := h.holds b x hx
  by_cases hc : x.channel = c
  · have hstate : ((s.setChannel c ch).channel x.channel).state = .quiescing := by
      rw [hc, State.setChannel_channel_self, hch]
    have hold : (s.channel x.channel).state ≠ .offline := by rwa [hc]
    unfold State.channelFits
    rw [hstate]
    split
    next => rfl
    next => rfl
    next => exact Bool.or_true _
    next => rfl
    next => rfl
    next => rfl
  · rwa [channelFits_congr (s := s) (by rw [State.setChannel_channel, if_neg hc]; exact .refl _) (State.setChannel_restart ..)]

/-- One waiting operation is removed and its owner told (R88 step 1). -/
theorem Core.opRemoved (h : Core (some (c, none)) s) {rest : List Op} (hq : (s.channel c).queue = op :: rest)
    (hst : (s.channel c).state = .quiescing) :
    Core (some (c, none)) ((State.opRemoved c s op).setChannel c { s.channel c with queue := rest }) := by
  have hfits := h.queues.fits c
  rw [hq] at hfits
  obtain ⟨hfit, -⟩ := hfits
  have hhead : s.headNumber (some (c, none)) c = none := if_pos rfl
  rw [hhead] at hfit
  have hresting := h.channels.resting (c := c) rfl
  have hch : HeadGone (s.channel c) { s.channel c with queue := rest } rest := by
    refine ⟨rfl, rfl, ?_, hresting.2⟩
    have := hresting.1
    rw [hq, List.length_cons] at this
    exact Nat.le_of_succ_le this
  have hgap := gapAt_some c none
  rw [← opRemoved_setChannel]
  cases hk : op.kind with
  | clear sector q =>
    rw [opRemoved_clear hk]
    exact h.leave_clear hgap hq hch hk (sameCore_append ..)
  | fetch pg o n i =>
    obtain ⟨-, x, hx, hp, overlay, hw⟩ := (opFits_fetch_iff hk).mp hfit
    rw [opRemoved_fetch hk ((State.setChannel_slot ..).trans hx) hw hp]
    exact h.leave_fetch hgap hq hch hk (inRanges_failed (h.slots i x hx).1 hp) (fun hf => by cases hf) (.refl _)
  | program pg b =>
    obtain ⟨ha, x, hx, hxc, -, hat, hp⟩ := (opFits_program_iff hk).mp hfit
    have hzero : x.attempts = 0 := hat.trans ha
    rw [opRemoved_program hk]
    refine h.leave_held (cause := .channelOffline) hgap hq hch hk hx ((onWay_iff x).mpr (.inl hp)) hzero (fun _ => ?_) (.refl _)
    rw [hxc, hst]
    rfl

/-- All of them are (R88 step 1). -/
theorem Core.foldl_opRemoved (ops : List Op) (h : Core (some (c, none)) s) (hq : (s.channel c).queue = ops)
    (hst : (s.channel c).state = .quiescing) :
    Core (some (c, none)) ((ops.foldl (State.opRemoved c) s).setChannel c { s.channel c with queue := [] }) := by
  induction ops generalizing s with
  | nil =>
    have hsame : ({ s.channel c with queue := [] } : Channel) = s.channel c := by rw [← hq]
    rw [hsame, List.foldl_nil, setChannel_same]
    exact h
  | cons op rest ih =>
    have hnext := ih (h.opRemoved hq hst) (by rw [State.setChannel_channel_self]) (by rw [State.setChannel_channel_self]; exact hst)
    rw [foldl_opRemoved_setChannel, setChannel_setChannel, State.setChannel_channel_self] at hnext
    exact hnext

/-- What the holds of several buffers do to the slots. -/
theorem foldl_holdBuffer_slots (bs : List BufferId) (cause : HoldCause) (s : State) :
    (∃ f, SlotsBy f s (bs.foldl (fun t b => t.holdBuffer b cause) s))
      ∧ ∀ good, Waits good s.slot → Waits (fun b q => good b q ∧ b ∉ bs) (bs.foldl (fun t b => t.holdBuffer b cause) s).slot := by
  induction bs generalizing s with
  | nil =>
    exact ⟨⟨id, slotsBy_id fun _ => rfl⟩, fun good h => h.mono fun b q hb => ⟨hb, List.not_mem_nil⟩⟩
  | cons a bs ih =>
    obtain ⟨⟨f, hf, hslots⟩, hwaits⟩ := ih (s.holdBuffer a cause)
    have hfirst := slotsBy_holdBuffer s a cause
    refine ⟨⟨f ∘ Slot.memberHeld a cause s.params.holdTime, fun x => ⟨?_, fun hx => ?_⟩, fun i => (hslots i).trans ?_⟩,
      fun good h => ?_⟩
    · exact (hf _).1.trans (hfirst.1 x).1
    · have hkeep : x.memberHeld a cause s.params.holdTime = x := (hfirst.1 x).2 hx
      rw [Function.comp_apply, hkeep]
      exact (hf x).2 hx
    · rw [holdBuffer_slot, Option.map_map]
    · have hheld : Waits (fun b q => good b q ∧ b ≠ a) (s.holdBuffer a cause).slot :=
        h.held (holdBuffer_slot s a cause) fun b q hb hg => ⟨hg, hb⟩
      refine (hwaits _ hheld).mono fun b q hb => ⟨hb.1.1, fun hmem => ?_⟩
      rcases List.mem_cons.mp hmem with hba | hmem
      · exact hb.1.2 hba
      · exact hb.2 hmem

/-- The SEALED buffers of the channel go HELD (R88 step 2). -/
theorem holdSealed_spec (s : State) (c : ChannelId) :
    (∀ b, (s.holdSealed c).buffer b = (s.buffer b).map fun x => if b ∈ s.sealList ∧ x.channel = c then x.inPhase (.held .channelOffline) else x)
      ∧ (s.holdSealed c).sealList = s.sealList.filter (fun b => !s.bufferHas b fun x => x.channel == c)
      ∧ (s.holdSealed c).openOrder = s.openOrder ∧ (∀ c', (s.holdSealed c).channel c' = s.channel c')
      ∧ (s.holdSealed c).restart = s.restart := by
  obtain ⟨hbuffers, hrest⟩ := foldl_holdBuffer (s.sealList.filter fun b => s.bufferHas b fun x => x.channel == c)
    .channelOffline { s with sealList := s.sealList.filter fun b => !s.bufferHas b fun x => x.channel == c }
  have hall : s.holdSealed c = _ := hrest
  refine ⟨fun b => (hbuffers b).trans ?_, by rw [hall], by rw [hall], fun c' => by rw [hall]; cases c' <;> rfl, by rw [hall]⟩
  change (s.buffer b).map _ = _
  cases hb : s.buffer b with
  | none => rfl
  | some x => simp [bufferHas_of_some hb]

/-- No SEALED buffer of the channel is left. -/
theorem Core.holdSealed (h : Core (some (c, none)) s) (hst : (s.channel c).state = .quiescing) :
    Core (some (c, none)) (s.holdSealed c) := by
  obtain ⟨hbuffer, hseal, hopen, hchannel, hr⟩ := holdSealed_spec s c
  obtain ⟨⟨f, hslots⟩, hwaits⟩ := foldl_holdBuffer_slots (s.sealList.filter fun b => s.bufferHas b fun x => x.channel == c)
    .channelOffline { s with sealList := s.sealList.filter fun b => !s.bufferHas b fun x => x.channel == c }
  obtain ⟨-, hlive, hnodup, hsealed⟩ := h.pool.lists
  have hphase {b : BufferId} {x : Buffer} (hx : s.buffer b = some x) (hmem : b ∈ s.sealList) : x.phase = .sealed := by
    have := (hsealed b).mp hmem
    rwa [bufferHas_of_some hx, isSealed_iff] at this
  constructor
  case pool =>
    refine h.pool.step (by rw [hopen]) (fun b => by rw [hopen, hlive, hbuffer, Option.isSome_map]) (fun b y hy => ?_)
      (by rw [hseal]; exact hnodup.filter _) fun b => ?_
    · rw [hbuffer] at hy
      obtain ⟨x, hx, rfl⟩ := Option.map_eq_some_iff.mp hy
      refine ⟨x, hx, ?_⟩
      split
      next hmine =>
        have hattempts := attempts_of_ranges h.pool hx
        rw [hphase hx hmine.1] at hattempts
        refine h.pool.stepTo hx rfl hattempts (fun hy => by cases hy) (fun hy => ?_) ?_
        · rw [onWay_eq_false_of_held rfl] at hy
          cases hy
        · simp only [State.channelFits, hchannel, hmine.2, hst]
          rfl
      next =>
        refine h.pool.same hx ?_
        rw [channelFits_congr (s := s) (by rw [hchannel]; exact .refl _) hr]
        exact h.pool.holds b x hx
    · rw [hseal, List.mem_filter, bufferHas_iff]
      constructor
      · rintro ⟨hmem, hother⟩
        obtain ⟨x, hx, hsx⟩ := bufferHas_iff.mp ((hsealed b).mp hmem)
        rw [bufferHas_of_some hx] at hother
        refine ⟨x, ?_, hsx⟩
        rw [hbuffer, hx, Option.map_some, if_neg]
        rintro ⟨-, hc⟩
        simp [hc] at hother
      · rintro ⟨y, hy, hsy⟩
        rw [hbuffer] at hy
        obtain ⟨x, hx, rfl⟩ := Option.map_eq_some_iff.mp hy
        split at hsy
        next => cases hsy
        next hno =>
          have hmem : b ∈ s.sealList := (hsealed b).mpr (by rw [bufferHas_of_some hx]; exact hsy)
          refine ⟨hmem, ?_⟩
          rw [bufferHas_of_some hx]
          simpa using fun hc => hno ⟨hmem, hc⟩
  case slots =>
    refine (hwaits s.Coming h.slots).mono fun b q hb => ?_
    obtain ⟨⟨y, hy, hc, hw⟩, hnot⟩ := hb
    refine ⟨y, ?_, hc, hw⟩
    rw [hbuffer, hy, Option.map_some, if_neg]
    rintro ⟨hmem, hyc⟩
    exact hnot (List.mem_filter.mpr ⟨hmem, by rw [bufferHas_of_some hy, hyc, beq_self_eq_true]⟩)
  case queues =>
    have hslots' : SlotsBy f s (s.holdSealed c) := hslots
    refine h.queues.same (sameOwners_of_aside (fun c' => by rw [hchannel]; exact ⟨rfl, rfl⟩) hr hslots' (fun b x hx hw => ?_)
      fun b y hy hw => ?_)
    · rw [hbuffer, hx, Option.map_some, if_neg]
      rintro ⟨hmem, -⟩
      rw [onWay_eq_false_of_sealed (hphase hx hmem)] at hw
      cases hw
    · rw [hbuffer] at hy
      obtain ⟨x, hx, rfl⟩ := Option.map_eq_some_iff.mp hy
      split at hw
      next => rw [onWay_eq_false_of_held rfl] at hw; cases hw
      next hno => rw [if_neg hno, hx]
  case channels => exact fun c' => by rw [hchannel]; exact h.channels c'

/-- With its queue empty and no SEALED buffer left the channel may be OFFLINE. -/
theorem Core.goOffline (h : Core (some (c, none)) s) (hq : (s.channel c).queue = [])
    (hsealed : ∀ b x, s.buffer b = some x → x.channel = c → x.phase ≠ .sealed) :
    Core none (s.setChannel c { s.channel c with queue := [], timer := none, state := .offline }) := by
  have hresting := h.channels.resting (c := c) rfl
  have hother (c' : ChannelId) (hc : c' ≠ c) :
      (s.setChannel c { s.channel c with queue := [], timer := none, state := .offline }).channel c' = s.channel c' := by
    rw [State.setChannel_channel, if_neg hc]
  have hsame (c' : ChannelId) :
      ((s.setChannel c { s.channel c with queue := [], timer := none, state := .offline }).channel c').queue = (s.channel c').queue
        ∧ ((s.setChannel c { s.channel c with queue := [], timer := none, state := .offline }).channel c').number = (s.channel c').number := by
    rw [State.setChannel_channel]
    split
    next hc => rw [hc, hq]; exact ⟨rfl, rfl⟩
    next => exact ⟨rfl, rfl⟩
  have howned {b : BufferId} {x : Buffer} (hx : s.buffer b = some x) (hp : x.phase = .programming ∨ x.phase = .queued ∧ s.restart = none) :
      x.channel ≠ c := by
    obtain ⟨c', op, hop, hb⟩ := mem_queuedBuffers.mp (h.queues.owned b x hx hp)
    obtain ⟨y, hy, -, hyc⟩ := h.queues.onWay_of_ref hop hb
    cases hx.symm.trans hy
    rintro rfl
    subst hyc
    rw [hq] at hop
    cases hop
  refine ⟨?_, SlotLaw.setChannel h.slots c _, ?_, h.channels.close (gapAt_some c none) hother ?_⟩
  · refine h.pool.refit (fun b => State.setChannel_buffer ..) (State.setChannel_openOrder ..) (State.setChannel_sealList ..)
      fun b x hx => ?_
    have hfit := h.pool.holds b x hx
    by_cases hc : x.channel = c
    · have hstate : ((s.setChannel c { s.channel c with queue := [], timer := none, state := .offline }).channel x.channel).state
          = .offline := by rw [hc, State.setChannel_channel_self]
      have hr : (s.setChannel c { s.channel c with queue := [], timer := none, state := .offline }).restartPending
          = s.restartPending := by rw [State.restartPending, State.setChannel_restart]; rfl
      unfold State.channelFits
      rw [hstate, hr]
      split
      next hp => exact absurd hp (hsealed b x hx hc)
      next hp => exact absurd hc (howned hx (.inl hp))
      next hp =>
        cases hr : s.restart with
        | none => exact absurd hc (howned hx (.inr ⟨hp, hr⟩))
        | some q => simp [State.restartPending, hr]
      next => rfl
      next => rfl
      next => rfl
    · rwa [channelFits_congr (s := s) (by rw [hother _ hc]; exact .refl _) (State.setChannel_restart ..)]
  · refine (h.queues.regap_empty (gapAt_some c none) (gapAt_none c) hq).same ?_
    exact sameOwners_of_aside hsame (State.setChannel_restart ..) (slotsBy_id fun _ => State.setChannel_slot ..)
      (fun b x hx _ => (State.setChannel_buffer ..).trans hx) fun b y hy _ => (State.setChannel_buffer ..).symm.trans hy
  · rw [State.setChannel_channel_self]
    exact ⟨Nat.zero_le _, fun hw => (by cases hw), fun _ => ⟨rfl, rfl⟩, hresting.2.2, fun hne => absurd rfl hne⟩

/-- The offline entry of a channel in the gap (R88). -/
theorem Core.offlineEntry (h : Core (some (c, none)) s) (hne : (s.channel c).state ≠ .offline) (cause : OfflineCause) :
    Core none (s.offlineEntry c cause) := by
  have hresting := h.channels.resting (c := c) rfl
  have hquiescing : Core (some (c, none)) (s.setChannel c { s.channel c with state := .quiescing }) := by
    have hself : (s.setChannel c { s.channel c with state := .quiescing }).channel c = { s.channel c with state := .quiescing } :=
      State.setChannel_channel_self ..
    have hother (c' : ChannelId) (hc : c' ≠ c) : (s.setChannel c { s.channel c with state := .quiescing }).channel c' = s.channel c' := by
      rw [State.setChannel_channel, if_neg hc]
    have hsame (c' : ChannelId) : ((s.setChannel c { s.channel c with state := .quiescing }).channel c').queue = (s.channel c').queue
        ∧ ((s.setChannel c { s.channel c with state := .quiescing }).channel c').number = (s.channel c').number := by
      rw [State.setChannel_channel]
      split
      next hc => rw [hc]; exact ⟨rfl, rfl⟩
      next => exact ⟨rfl, rfl⟩
    refine ⟨h.pool.quiesce hne rfl, SlotLaw.setChannel h.slots c _, h.queues.same ?_,
      h.channels.toGap (gapAt_some c none) none hother (by rw [hself]; exact hresting)⟩
    exact sameOwners_of_aside hsame (State.setChannel_restart ..) (slotsBy_id fun _ => State.setChannel_slot ..)
      (fun b x hx _ => (State.setChannel_buffer ..).trans hx) fun b y hy _ => (State.setChannel_buffer ..).symm.trans hy
  have hremoved := hquiescing.foldl_opRemoved (s.channel c).queue (by rw [State.setChannel_channel_self])
    (by rw [State.setChannel_channel_self])
  rw [foldl_opRemoved_setChannel, setChannel_setChannel, State.setChannel_channel_self] at hremoved
  have hheld := hremoved.holdSealed (by rw [State.setChannel_channel_self])
  obtain ⟨hbuffer, hseal, -, -, -⟩ := holdSealed_spec
    (((s.channel c).queue.foldl (State.opRemoved c) s).setChannel c { s.channel c with queue := [], state := .quiescing }) c
  have hlisted := hremoved.pool.lists.2.2.2
  have hchannel : (((s.channel c).queue.foldl (State.opRemoved c) s).holdSealed c).channel c = s.channel c :=
    ((holdSealed_spec _ c).2.2.2.1 c).trans ((sameQueues_foldl_opRemoved c (s.channel c).queue s).channel c)
  have hoffline := hheld.goOffline (by rw [holdSealed_setChannel, State.setChannel_channel_self]) fun b y hy hc hp => ?_
  · rw [holdSealed_setChannel, setChannel_setChannel, State.setChannel_channel_self] at hoffline
    rw [State.offlineEntry, hchannel]
    exact hoffline.append _
  · rw [hbuffer] at hy
    obtain ⟨x, hx, rfl⟩ := Option.map_eq_some_iff.mp hy
    split at hp
    next => cases hp
    next hno =>
      rw [if_neg hno] at hc
      exact hno ⟨(hlisted b).mpr (by rw [bufferHas_of_some hx]; exact (isSealed_iff x).mpr hp), hc⟩

end Offline

end Sys2Proof.Machine

/-! ### Completions and failed attempts keep the core (R79 to R81, R87, R152, R153) -/

namespace Sys2Proof.Machine

section Outcome
variable {s t : State} {c : ChannelId} {op : Op} {rest : List Op} {number : Option (BitVec 8)}

/-- After an operation has left, a channel that works goes on (R79 steps 4 and 5, R81, R87). -/
theorem Core.afterLeaving (h : Core (some (c, none)) s) (hw : (s.channel c).state.working = true) (hs : (s.channel c).streak ≤ 14) :
    Core none (s.afterLeaving c) := by
  cases hstate : (s.channel c).state with
  | idle | offline => rw [hstate] at hw; cases hw
  | quiescing =>
    rw [afterLeaving_quiescing hstate]
    exact h.offlineEntry (by rw [hstate]; decide) _
  | busy =>
    have hmoving : Moving (some (c, none)) s := fun c' number hg => by
      cases hg
      exact ⟨rfl, by rw [hstate]; decide⟩
    obtain ⟨htry, -⟩ := h.tryEnqueue hmoving c
    obtain ⟨extra, hchannel, hsame⟩ := moves_channel_busy (moves_tryEnqueue s c) hstate
    cases hq : ((s.tryEnqueue c).channel c).queue with
    | nil =>
      rw [afterLeaving_idle hstate hq]
      have hqueue : (s.channel c).queue = [] := by
        rw [hchannel] at hq
        exact (List.append_eq_nil_iff.mp hq).1
      exact h.idle hqueue hstate hs
    | cons op rest =>
      have hfits := htry.queues.fits c
      rw [hq] at hfits
      have hzero : op.attempts = 0 := by
        have hhead : (s.tryEnqueue c).headNumber (some (c, none)) c = none := if_pos rfl
        have := attemptsFit_of_opFits hfits.1
        rwa [hhead] at this
      rw [afterLeaving_busy hstate (by rw [hq]; exact List.cons_ne_nil _ _)]
      refine htry.startHead hq (by omega) ?_ ?_
      · rw [hchannel]; exact hs
      · rw [hchannel, hstate]; decide

/-- What every failed attempt does first: the channel rests, its head still with the number of the attempt (R80). -/
theorem Core.noteFailure (h : Core none s) (hw : (s.channel c).state.working = true) :
    Core (some (c, some (s.channel c).number)) (s.noteFailure c) := by
  obtain ⟨hlen, -, -, -, hstreak⟩ := h.channels.lawful (c := c) fun _ hg => by cases hg
  have hstreak := hstreak fun hoff => by rw [hoff] at hw; cases hw
  have hsame (c' : ChannelId) :
      ((s.setChannel c { s.channel c with timer := none, streak := (s.channel c).streak + 1 }).channel c').queue = (s.channel c').queue
        ∧ ((s.setChannel c { s.channel c with timer := none, streak := (s.channel c).streak + 1 }).channel c').number
          = (s.channel c').number := by
    rw [State.setChannel_channel]
    split
    next hc => rw [hc]; exact ⟨rfl, rfl⟩
    next => exact ⟨rfl, rfl⟩
  refine Core.of_same (s := s.setChannel c { s.channel c with timer := none, streak := (s.channel c).streak + 1 }) ?_
    (sameCore_setCounters ..)
  refine ⟨h.pool.setChannel (.refl _), SlotLaw.setChannel h.slots c _, ?_, h.channels.toGap (gapAt_none c) _
    (fun c' hc => by rw [State.setChannel_channel, if_neg hc]) ?_⟩
  · have hregap : QueueLaw (some (c, some (s.channel c).number)) s := h.queues.regap fun c' => .inr (by
      change (if c' = c then some (s.channel c).number else some (s.channel c').number) = some (s.channel c').number
      split
      next hc => rw [hc]
      next => rfl)
    refine hregap.same ?_
    exact sameOwners_of_aside hsame (State.setChannel_restart ..) (slotsBy_id fun _ => State.setChannel_slot ..)
      (fun b x hx _ => (State.setChannel_buffer ..).trans hx) fun b y hy _ => (State.setChannel_buffer ..).symm.trans hy
  · rw [State.setChannel_channel_self]
    exact ⟨hlen, rfl, Nat.succ_le_succ hstreak⟩

theorem noteFailure_channel (s : State) (c : ChannelId) :
    (s.noteFailure c).channel c = { s.channel c with timer := none, streak := (s.channel c).streak + 1 } := by
  rw [State.noteFailure, State.countFailedAttempt, State.setCounters_channel, State.setChannel_channel_self]

/-- The channel after its head left the queue in the gap. -/
theorem headGone_tail (h : (s.channel c).resting) (hq : (s.channel c).queue = op :: rest) :
    HeadGone (s.channel c) { s.channel c with queue := (s.channel c).queue.tail } rest := by
  refine ⟨by rw [hq]; rfl, rfl, ?_, h.2⟩
  have := h.1
  rw [hq, List.length_cons] at this
  rw [hq]
  exact Nat.le_of_succ_le this

/-- A final failure of the head operation (R81). -/
theorem Core.headFailedFinally (h : Core (some (c, some (s.channel c).number)) s) (hq : (s.channel c).queue = op :: rest) :
    Core (some (c, none)) (s.headFailedFinally c op) := by
  have hfits := h.queues.fits c
  rw [hq] at hfits
  obtain ⟨hfit, -⟩ := hfits
  have hhead : s.headNumber (some (c, some (s.channel c).number)) c = some (s.channel c).number := if_pos rfl
  rw [hhead] at hfit
  have hch := headGone_tail (h.channels.resting (c := c) rfl) hq
  have hgap := gapAt_some c (some (s.channel c).number)
  rw [headFailedFinally_eq]
  cases hk : op.kind with
  | clear sector q => exact h.leave_clear hgap hq hch hk (sameCore_append ..)
  | fetch pg o n i =>
    obtain ⟨-, x, hx, hp, overlay, hw⟩ := (opFits_fetch_iff hk).mp hfit
    have hx1 : (s.withoutHead c).slot i = some x := (State.setChannel_slot ..).trans hx
    rw [opFailed_fetch hx1 (awaits_eq hp hw rfl)]
    exact h.leave_fetch hgap hq hch hk (inRanges_failed (h.slots i x hx).1 hp) (fun hf => by cases hf) (sameCore_append ..)
  | program pg b =>
    obtain ⟨ha, x, hx, hxc, -, hat, hp⟩ := (opFits_program_iff hk).mp hfit
    have hattempts : 1 ≤ x.attempts ∧ x.attempts ≤ 8 := by
      rw [hat]
      exact ha
    exact h.leave_held (cause := .programFailed) hgap hq hch hk hx ((onWay_iff x).mpr (.inr hp)) hattempts (fun hc => by cases hc)
      (sameCore_append ..)

theorem opFailed_channel (s : State) (c c' : ChannelId) (k : OpKind) (n : BitVec 8) : (s.opFailed c k n).channel c' = s.channel c' := by
  unfold State.opFailed
  split
  next =>
    unfold State.fetchFailed
    split
    next =>
      split
      next => rw [append_channel, State.setSlot_channel]
      next => rfl
    next => rfl
  next => rw [State.programFailed, append_channel, holdBuffer_channel]
  next => exact append_channel ..

theorem headFailedFinally_channel (s : State) (c : ChannelId) (op : Op) :
    (s.headFailedFinally c op).channel c = { s.channel c with queue := (s.channel c).queue.tail } := by
  rw [headFailedFinally_eq, opFailed_channel, State.withoutHead, State.setChannel_channel_self]

/-- Success of the operation in progress, up to what the channel does next (R79). -/
theorem Core.opSucceeded (h : Core none s) (hq : (s.channel c).queue = op :: rest) {bytes : List Byte}
    (hform : op.kind.formFits bytes = true) :
    Core (some (c, none)) ((s.leftByHead c).opSucceeded c op.kind (s.channel c).number bytes) := by
  have hfits := h.queues.fits c
  rw [hq] at hfits
  obtain ⟨hfit, -⟩ := hfits
  have hhead : s.headNumber none c = some (s.channel c).number := rfl
  rw [hhead] at hfit
  obtain ⟨hlen, -⟩ := h.channels.lawful (c := c) fun _ hg => by cases hg
  have hch : HeadGone (s.channel c) { s.channel c with timer := none, streak := 0, queue := (s.channel c).queue.tail } rest := by
    refine ⟨by rw [hq]; rfl, rfl, ?_, rfl, Nat.zero_le _⟩
    rw [hq, List.length_cons] at hlen
    rw [hq]
    exact Nat.le_of_succ_le hlen
  have hgap := gapAt_none c
  cases hk : op.kind with
  | clear sector q => exact h.leave_clear hgap hq hch hk (sameCore_setStore ..)
  | fetch pg o n i =>
    obtain ⟨-, x, hx, hp, overlay, hw⟩ := (opFits_fetch_iff hk).mp hfit
    have hx1 : (s.leftByHead c).slot i = some x := (State.setChannel_slot ..).trans hx
    rw [opSucceeded_fetch hx1 (awaits_eq hp hw rfl)]
    refine h.leave_fetch hgap hq hch hk ?_ (fun hf => by cases hf) (.refl _)
    have hranges := (h.slots i x hx).1
    have hn : bytes.length = n := by simpa [hk, OpKind.formFits] using hform
    obtain ⟨ticket, requester, work, phase⟩ := x
    subst hp hw
    simp only [Slot.inRanges, Bool.and_eq_true] at hranges ⊢
    have hoverlay : overlay.length = n := by
      have hfit := hranges.2
      simp only [ReadWork.fits, Bool.and_eq_true, beq_iff_eq] at hfit
      exact hfit.1.2
    refine ⟨hranges.1, hranges.2, ?_⟩
    simp [assemble, hoverlay, hn]
  | program pg b =>
    obtain ⟨ha, x, hx, hxc, -, hat, hp⟩ := (opFits_program_iff hk).mp hfit
    have hx1 : (s.leftByHead c).buffer b = some x := (State.setChannel_buffer ..).trans hx
    rw [opSucceeded_program hx1]
    refine h.leave_programmed hgap hq hch hk hx ((onWay_iff x).mpr (.inr hp)) ?_
    cases c <;> exact ⟨rfl, rfl, rfl, rfl, rfl, rfl, rfl⟩

theorem opSucceeded_channel (s : State) (c c' : ChannelId) (k : OpKind) (n : BitVec 8) (bytes : List Byte) :
    (s.opSucceeded c k n bytes).channel c' = s.channel c' := by
  unfold State.opSucceeded
  simp only
  split
  next => rw [fetchSucceeded_channel, State.setStore_channel]
  next => rw [State.countProgram, State.setCounters_channel, programSucceeded_channel, State.setStore_channel]
  next => rw [State.setStore_channel]

/-- The OK completion of the operation in progress (R79). -/
theorem Core.headSucceeded (h : Core none s) (hw : (s.channel c).state.working = true) (hq : (s.channel c).queue = op :: rest)
    {bytes : List Byte} (hform : op.kind.formFits bytes = true) : Core none (s.headSucceeded c op bytes) := by
  rw [headSucceeded_eq]
  refine (h.opSucceeded hq hform).afterLeaving ?_ ?_
  · rw [opSucceeded_channel, State.leftByHead, State.setChannel_channel_self]; exact hw
  · rw [opSucceeded_channel, State.leftByHead, State.setChannel_channel_self]; exact Nat.zero_le _

/-- A failed attempt of the operation in progress (R80, R81). -/
theorem Core.failedAttempt (h : Core none s) (hparams : s.paramsLawful) (hw : (s.channel c).state.working = true)
    (hq : (s.channel c).queue = op :: rest) : Core none (s.failedAttempt c op) := by
  obtain ⟨-, -, -, -, -, hretry, ⟨-, hoffline⟩, -, -⟩ := hparams
  have hnoted := h.noteFailure hw
  have hchannel := noteFailure_channel s c
  have hstate : ((s.noteFailure c).channel c).state = (s.channel c).state := by rw [hchannel]
  have hnumber : ((s.noteFailure c).channel c).number = (s.channel c).number := by rw [hchannel]
  have hqueue : ((s.noteFailure c).channel c).queue = op :: rest := by rw [hchannel]; exact hq
  have hstreak : ((s.noteFailure c).channel c).streak = (s.channel c).streak + 1 := by rw [hchannel]
  have hne : (s.channel c).state ≠ .offline := fun hoff => by rw [hoff] at hw; cases hw
  have hfinal : Core (some (c, none)) ((s.noteFailure c).headFailedFinally c op) := by
    rw [← hnumber] at hnoted
    exact hnoted.headFailedFinally hqueue
  have hleft := headFailedFinally_channel (s.noteFailure c) c op
  have hleftState : (((s.noteFailure c).headFailedFinally c op).channel c).state = (s.channel c).state := by rw [hleft]; exact hstate
  have hleftStreak : (((s.noteFailure c).headFailedFinally c op).channel c).streak = (s.channel c).streak + 1 := by
    rw [hleft]; exact hstreak
  by_cases hlimit : s.params.offlineStreak ≤ (s.channel c).streak + 1
  · rw [failedAttempt_streak hlimit]
    exact hfinal.offlineEntry (by rwa [hleftState]) _
  have hlow : (s.channel c).streak + 1 ≤ 14 := by omega
  by_cases hretried : s.restart = none ∧ op.attempts ≤ s.params.retryLimit
  · rw [failedAttempt_retried (Nat.not_le.mp hlimit) hretried.1 hretried.2]
    exact hnoted.startHead hqueue (Nat.le_trans hretried.2 hretry) (by rwa [hstreak]) (by rwa [hstate])
  · have hlast : s.restart ≠ none ∨ s.params.retryLimit < op.attempts := by
      by_cases hr : s.restart = none
      · exact .inr (Nat.not_le.mp fun ha => hretried ⟨hr, ha⟩)
      · exact .inl hr
    rw [failedAttempt_final (Nat.not_le.mp hlimit) hlast]
    exact hfinal.afterLeaving (by rwa [hleftState]) (by rwa [hleftStreak])

theorem working_of_inProgress (h : (s.channel c).inProgress = some op) : (s.channel c).state.working = true := by
  unfold Channel.inProgress at h
  split at h
  next hw => exact hw
  next => cases h

/-- A completion that is taken (R77). -/
theorem Core.takeCompletion (h : Core none s) (hparams : s.paramsLawful) (hop : (s.channel c).inProgress = some op)
    (status : CompletionStatus) (bytes : List Byte) : Core none (s.takeCompletion c op status bytes) := by
  obtain ⟨rest, hq⟩ := queue_of_inProgress hop
  have hw := working_of_inProgress hop
  rcases takeCompletion_or s c op status bytes with ht | ⟨-, hform, ht⟩
  · rw [ht]; exact h.failedAttempt hparams hw hq
  · rw [ht]; exact h.headSucceeded hw hq hform

/-! #### Restart (R150, R152, R153) -/

/-- The state of a completed restart but for its record (R153). -/
def State.blanked (s : State) : State :=
  { s with
    slots := Vector.replicate 8 none
    buffers := Vector.replicate 12 none
    openOrder := []
    sealList := []
    grants := Vector.replicate 24 none
    sc0 := s.sc0.restarted
    sc1 := s.sc1.restarted
    restart := none }

theorem completeRestart_eq (s : State) (q : ReqId) : s.completeRestart q = s.blanked.append (.restartDone q) := rfl

theorem blank_blanked (s : State) : Blank s.blanked where
  buffers := fun b => by simp [State.buffer, State.blanked]
  slots := fun i => by simp [State.slot, State.blanked]
  openOrder := rfl
  sealList := rfl
  queues := fun c => by cases c <;> rfl
  timers := fun c => by cases c <;> rfl
  states := fun c => by
    have h (ch : Channel) : ch.restarted.state.working = false := by
      simp only [Channel.restarted]
      split <;> rfl
    cases c <;> exact h _
  streaks := fun c => by cases c <;> rfl

theorem Core.settleRestart (h : Core none s) : Core none s.settleRestart := by
  rcases settleRestart_or s with hs | ⟨q, -, -, hs⟩
  · rwa [hs]
  · rw [hs, completeRestart_eq]
    exact (blank_blanked s).core.append _

end Outcome

end Sys2Proof.Machine

/-! ### Time, slots and grants in the core (R31, R36, R60, R62, R65, R117) -/

namespace Sys2Proof.Machine

/-- A change of buffers that the laws of the pool do not see: time passes, or a grant is forgotten. -/
structure Mild (g : Buffer → Buffer) : Prop where
  channel : ∀ x, (g x).channel = x.channel
  page : ∀ x, (g x).page = x.page
  staged : ∀ x, (g x).staged = x.staged
  writers : ∀ x, (g x).writers = x.writers
  attempts : ∀ x, (g x).attempts = x.attempts
  phase : ∀ x, (g x).phase = x.phase ∨ (g x).isOpen = true ∧ x.isOpen = true

section Mild
variable {s t : State} {gap : Gap} {g : Buffer → Buffer} {f : Slot → Slot}

theorem isOpen_congr {x y : Buffer} (h : y.phase = x.phase) : y.isOpen = x.isOpen := by simp only [Buffer.isOpen, h]

theorem Mild.isOpen (h : Mild g) (x : Buffer) : (g x).isOpen = x.isOpen := by
  rcases h.phase x with hp | ⟨hy, hx⟩
  · exact isOpen_congr hp
  · rw [hy, hx]

theorem Mild.phase_of_closed (h : Mild g) {x : Buffer} (hx : x.isOpen = false) : (g x).phase = x.phase := by
  rcases h.phase x with hp | ⟨-, ho⟩
  · exact hp
  · rw [hx] at ho; cases ho

theorem Mild.onWay (h : Mild g) (x : Buffer) : (g x).onWay = x.onWay := by
  rcases h.phase x with hp | ⟨hy, hx⟩
  · simp only [Buffer.onWay, hp]
  · rw [onWay_eq_false_of_open hy, onWay_eq_false_of_open hx]

theorem Mild.isSealed (h : Mild g) (x : Buffer) : (g x).isSealed = x.isSealed := by
  rcases h.phase x with hp | ⟨hy, hx⟩
  · simp only [Buffer.isSealed, hp]
  · rw [notSealed_of_open hy, notSealed_of_open hx]

theorem Mild.committing (h : Mild g) {x : Buffer} (hx : x.phase.committing = true) : (g x).phase.committing = true := by
  rwa [h.phase_of_closed (not_open_of_committing hx)]

theorem Mild.inRanges (h : Mild g) {x : Buffer} (hx : x.inRanges = true ∧ cellsWf x.staged) :
    (g x).inRanges = true ∧ cellsWf (g x).staged := by
  rw [inRanges_iff] at hx ⊢
  rw [h.staged, h.writers, h.attempts]
  obtain ⟨⟨hwritten, hattempts⟩, hwf⟩ := hx
  refine ⟨⟨hwritten, ?_⟩, hwf⟩
  rcases h.phase x with hp | ⟨hy, hx⟩
  · rwa [hp]
  · obtain ⟨_, _, hpy⟩ := (isOpen_iff _).mp hy
    obtain ⟨_, _, hpx⟩ := (isOpen_iff _).mp hx
    rw [hpx] at hattempts
    rw [hpy]
    exact hattempts

theorem Mild.channelFits (h : Mild g) (s : State) (x : Buffer) : s.channelFits (g x) = s.channelFits x := by
  rcases h.phase x with hp | ⟨hy, hx⟩
  · simp only [State.channelFits, hp, h.channel]
  · obtain ⟨_, _, hpy⟩ := (isOpen_iff _).mp hy
    obtain ⟨_, _, hpx⟩ := (isOpen_iff _).mp hx
    simp only [State.channelFits, hpx, hpy]

theorem PoolLaw.mild (h : PoolLaw s) (hg : Mild g) (hb : ∀ b, t.buffer b = (s.buffer b).map g) (ho : t.openOrder = s.openOrder)
    (hl : t.sealList = s.sealList) (hst : ∀ c, (t.channel c).state = (s.channel c).state) (hr : t.restart = s.restart) :
    PoolLaw t := by
  obtain ⟨-, hlive, hnodup, hsealed⟩ := h.lists
  refine h.step (by rw [ho]) (fun b => by rw [ho, hlive, hb, Option.isSome_map]) (fun b y hy => ?_) (by rwa [hl]) fun b => ?_
  · rw [hb] at hy
    obtain ⟨x, hx, rfl⟩ := Option.map_eq_some_iff.mp hy
    refine ⟨x, hx, hg.channel x, hg.page x, hg.inRanges (h.ranges b x hx), fun hy => by rwa [← hg.isOpen],
      fun hy a z hab hz => h.no_older hx (by rwa [← hg.onWay]) hab hz, ?_⟩
    rw [hg.channelFits, channelFits_congr (s := s) (by rw [hst]; exact .refl _) hr]
    exact h.holds b x hx
  · rw [hl, hsealed, State.bufferHas, State.bufferHas, hb]
    cases s.buffer b with
    | none => rfl
    | some x => rw [Option.map_some]; simp only [hg.isSealed]

/-- A change of slots that the laws do not see either. -/
structure MildSlots (f : Slot → Slot) : Prop where
  reads : LeavesReads f
  ranges : ∀ x, x.inRanges = true → (f x).inRanges = true
  waits : ∀ x b, (f x).WaitsOn b → x.WaitsOn b
  requester : ∀ x, (f x).requester = x.requester

theorem Core.mild (h : Core gap s) (hg : Mild g) (hb : ∀ b, t.buffer b = (s.buffer b).map g) (hf : MildSlots f)
    (hs : ∀ i, t.slot i = (s.slot i).map f) (ho : t.openOrder = s.openOrder) (hl : t.sealList = s.sealList)
    (hc : ∀ c, (t.channel c).state = (s.channel c).state ∧ (t.channel c).queue = (s.channel c).queue
      ∧ (t.channel c).number = (s.channel c).number) (hlaw : ChannelLaw gap t) (hr : t.restart = s.restart) : Core gap t := by
  have hslots : SlotsBy f s t := ⟨hf.reads, hs⟩
  refine ⟨h.pool.mild hg hb ho hl (fun c => (hc c).1) hr, ?_, h.queues.same ?_, hlaw⟩
  · refine h.slots.map hs hf.ranges fun x b hx => ⟨hf.waits x b hx, ?_⟩
    rw [hf.requester]
    exact coming_of_buffers fun b x hx hcom => ⟨g x, by rw [hb, hx]; rfl, hg.committing hcom, fun n hn => by rwa [hg.writers]⟩
  · refine ⟨fun c => (hc c).2.1, fun c => (hc c).2.2, hr, fun b x hx hw => ?_, fun b y hy hw => ?_,
      fun i x hx hx' => ⟨x, hslots.reads hx hx', rfl, rfl⟩, fun i y hy hy' => ⟨y, hslots.readsBack hy hy', hy'⟩⟩
    · have hclosed : x.isOpen = false := Bool.eq_false_iff.mpr fun ho => by
        rw [onWay_eq_false_of_open ho] at hw
        cases hw
      exact ⟨g x, by rw [hb, hx]; rfl, hg.channel x, hg.page x, hg.attempts x, hg.phase_of_closed hclosed⟩
    · rw [hb] at hy
      obtain ⟨x, hx, rfl⟩ := Option.map_eq_some_iff.mp hy
      rw [hg.onWay] at hw
      have hclosed : x.isOpen = false := Bool.eq_false_iff.mpr fun ho => by
        rw [onWay_eq_false_of_open ho] at hw
        cases hw
      exact ⟨x, hx, (hg.phase_of_closed hclosed).symm⟩

theorem mildSlots_id : MildSlots id := ⟨fun _ => ⟨rfl, fun _ => rfl⟩, fun _ h => h, fun _ _ h => h, fun _ => rfl⟩

end Mild

/-! #### Time passes -/

section Elapse
variable {s : State} {gap : Gap} {n : Micros}

theorem mild_elapse (n : Micros) : Mild fun x => { x with phase := x.phase.elapse n } := by
  refine ⟨fun _ => rfl, fun _ => rfl, fun _ => rfl, fun _ => rfl, fun _ => rfl, fun x => ?_⟩
  obtain ⟨_, _, _, _, _, _, phase, _⟩ := x
  cases phase with
  | opened => exact .inr ⟨rfl, rfl⟩
  | _ => exact .inl rfl

theorem mildSlots_elapse (n : Micros) : MildSlots fun x => { x with phase := x.phase.elapse n } := by
  refine ⟨fun x => ?_, fun x hx => ?_, fun x b ⟨m, hw, hp, hb⟩ => ?_, fun _ => rfl⟩
  · obtain ⟨ticket, requester, work, phase⟩ := x
    cases phase with
    | fetching => exact ⟨rfl, fun _ => rfl⟩
    | ready | failed => exact ⟨rfl, fun h => by cases h⟩
  · obtain ⟨ticket, requester, work, phase⟩ := x
    cases phase <;> cases work <;> exact hx
  · obtain ⟨ticket, requester, work, phase⟩ := x
    cases phase with
    | fetching => exact ⟨m, hw, rfl, hb⟩
    | ready | failed => cases hp

theorem elapse_lawful {ch : Channel} (h : ch.lawful) : (ch.elapse n).lawful := by
  obtain ⟨hlen, hworking, hstill, hstreak, hoff⟩ := h
  refine ⟨hlen, fun hw => ⟨(hworking hw).1, ?_⟩, fun hw => ⟨(hstill hw).1, ?_⟩, hstreak, hoff⟩
  · simpa [Channel.elapse] using (hworking hw).2
  · simp [Channel.elapse, (hstill hw).2]

theorem Core.elapse (h : Core none s) (n : Micros) : Core none (s.elapse n) := by
  refine h.mild (mild_elapse n) (elapse_buffer s n) (mildSlots_elapse n) (elapse_slot s n) rfl rfl
    (fun c => by rw [elapse_channel]; exact ⟨rfl, rfl, rfl⟩) (fun c => ?_) rfl
  have hlaw : ((s.elapse n).channel c).lawful := by
    rw [elapse_channel]
    exact elapse_lawful (h.channels.lawful fun _ hg => by cases hg)
  exact hlaw

end Elapse

/-! #### One slot changes that does not fetch -/

section Slot
variable {s : State} {gap : Gap} {i : SlotId}

theorem Core.setSlot {o : Option Slot} (h : Core gap s) (hold : ∀ x, s.slot i = some x → x.fetchesRead = false)
    (hnew : ∀ y, o = some y → y.fetchesRead = false ∧ y.inRanges = true ∧ ∀ b, y.WaitsOn b → s.Coming b y.requester) :
    Core gap (s.setSlot i o) := by
  have hslot := State.setSlot_slot s i o
  refine ⟨h.pool.standing (fun _ => rfl) rfl rfl (fun c => by rw [State.setSlot_channel]; exact .refl _) rfl, ?_,
    h.queues.same ⟨fun c => by rw [State.setSlot_channel], fun c => by rw [State.setSlot_channel], rfl,
      fun b x hx _ => ⟨x, hx, rfl, rfl, rfl, rfl⟩, fun b y hy _ => ⟨y, hy, rfl⟩, fun j x hx hf => ?_, fun j y hy hf => ?_⟩,
    fun c => by rw [State.setSlot_channel]; exact h.channels c⟩
  · cases o with
    | none => exact Waits.free h.slots hslot
    | some y => exact Waits.set h.slots hslot (hnew y rfl).2.1 (hnew y rfl).2.2
  · refine ⟨x, ?_, rfl, rfl⟩
    rw [hslot]
    split
    next hj => subst hj; rw [hold x hx] at hf; cases hf
    next => exact hx
  · rw [hslot] at hy
    split at hy
    next => rw [(hnew y hy).1] at hf; cases hf
    next => exact ⟨y, hy, hf⟩

theorem fetchesRead_eq_false {x : Slot} (h : x.phase ≠ .fetching) : x.fetchesRead = false :=
  Bool.eq_false_iff.mpr fun hf => h ((fetchesRead_iff x).mp hf).1

theorem Core.freeSlot (h : Core gap s) {x : Slot} (hx : s.slot i = some x) (hp : x.phase ≠ .fetching) : Core gap (s.setSlot i none) :=
  h.setSlot (fun y hy => by cases hx.symm.trans hy; exact fetchesRead_eq_false hp) fun y hy => by cases hy

theorem Core.abandonSlot (h : Core gap s) {x y : Slot} (hx : s.slot i = some x) (hp : x.phase ≠ .fetching) :
    Core gap (s.abandonSlot i y) :=
  ((h.freeSlot hx hp).of_same (sameCore_setCounters ..)).append _

end Slot

/-! #### Grants -/

section Grants
variable {s : State}

theorem mild_forget (w : WindowId) : Mild fun x => { x with grantWindows := leaveSet x.grantWindows w } :=
  ⟨fun _ => rfl, fun _ => rfl, fun _ => rfl, fun _ => rfl, fun _ => rfl, fun _ => .inl rfl⟩

theorem Core.forgetGrant (h : Core none s) (w : WindowId) : Core none (s.forgetGrant w) :=
  h.mild (mild_forget w) (forgetGrant_buffer s w) mildSlots_id (fun i => (Option.map_id_apply).symm) rfl rfl
    (fun c => by cases c <;> exact ⟨rfl, rfl, rfl⟩) h.channels rfl

theorem Core.endGrant (h : Core none s) (w : WindowId) : Core none (s.endGrant w) :=
  ((h.of_same (sameCore_setGrant s w none)).sealAllOf _).forgetGrant w

theorem Core.revokeGrant (h : Core none s) (w : WindowId) (cause : RevokeCause) : Core none (s.revokeGrant w cause) := by
  unfold State.revokeGrant
  split
  next => exact (h.endGrant w).append _
  next => exact h

theorem sameCore_used (s : State) (w : WindowId) : SameCore s (s.used w) := by
  unfold State.used State.useGrant
  split
  next =>
    split
    next => exact sameCore_setGrant ..
    next => exact .refl s
  next => exact .refl s

end Grants

end Sys2Proof.Machine

/-! ### Requests keep the core (R27 to R29, R53, R65, R92) -/

namespace Sys2Proof.Machine

/-! #### What a WRITE leaves in its buffer -/

theorem setCells_ne_nil {m : Cells} (k : Nat) (vs : List Byte) (h : m ≠ [] ∨ vs ≠ []) : setCells m k vs ≠ [] := by
  induction vs generalizing m k with
  | nil => exact h.resolve_right (fun h => h rfl)
  | cons v vs ih => exact ih (k + 1) (.inl (setCell_ne_nil m k v))

theorem setCells_page {m : Cells} {k : Nat} {vs : List Byte} (h : m.all (fun c => c.1 < Config.pageBytes) = true)
    (hk : k + vs.length ≤ 256) : (setCells m k vs).all (fun c => c.1 < Config.pageBytes) = true := by
  induction vs generalizing m k with
  | nil => exact h
  | cons v vs ih =>
    rw [List.length_cons] at hk
    refine ih ?_ (by omega)
    rw [List.all_eq_true] at h ⊢
    intro a ha
    rcases mem_setCell ha with rfl | ha
    · simp only [Config.pageBytes, decide_eq_true_eq]
      omega
    · exact h a ha

theorem writers_joined {m : ReqSet} {q : ReqId} (hq : q ≠ 0) (hm : inSet m 0 = false) :
    joinSet m q.toNat ≠ 0 ∧ inSet (joinSet m q.toNat) 0 = false := by
  have hlt : q.toNat < 32 := q.isLt
  have hne : q.toNat ≠ 0 := fun h => hq (BitVec.eq_of_toNat_eq h)
  constructor
  · intro hzero
    have hmem : inSet (joinSet m q.toNat) q.toNat = true := by
      rw [inSet_joinSet]
      simp [hlt]
    rw [hzero, show (0 : ReqSet) = 0#32 from rfl, inSet_zero] at hmem
    cases hmem
  · rw [inSet_joinSet, hm]
    simp [hne]

section Merge
variable {s t : State} {gap : Gap} {b : BufferId} {x y : Buffer} {q : ReqId} {gw : Option WindowId} {o : Nat} {bytes : List Byte}

theorem merged_isOpen (ho : x.isOpen = true) (idle : Micros) : (x.merged q gw o bytes idle).isOpen = true := by
  obtain ⟨_, _, hp⟩ := (isOpen_iff x).mp ho
  simp [Buffer.merged, Buffer.isOpen, hp]

theorem merged_ranges (ho : x.isOpen = true) (ha : x.attempts = 0) (hq : q ≠ 0) (hbytes : bytes ≠ []) (hpage : o + bytes.length ≤ 256)
    (hstaged : x.staged.all (fun c => c.1 < Config.pageBytes) = true) (hwf : cellsWf x.staged) (hw : inSet x.writers 0 = false)
    (idle : Micros) : (x.merged q gw o bytes idle).inRanges = true ∧ cellsWf (x.merged q gw o bytes idle).staged := by
  obtain ⟨_, _, hp⟩ := (isOpen_iff _).mp (merged_isOpen (q := q) (gw := gw) (o := o) (bytes := bytes) ho idle)
  obtain ⟨hw1, hw2⟩ := writers_joined hq hw
  refine ⟨(inRanges_iff _).mpr ⟨⟨setCells_ne_nil o bytes (.inr hbytes), setCells_page hstaged hpage, hw1, hw2⟩, ?_⟩,
    setCells_wf hwf o bytes⟩
  rw [hp]
  exact ha

/-- An OPEN buffer stays OPEN with more bytes. -/
theorem Core.merged (h : Core gap s) (hx : s.buffer b = some x) (ho : x.isOpen = true) (hq : q ≠ 0) (hbytes : bytes ≠ [])
    (hpage : o + bytes.length ≤ 256) (idle : Micros) : Core gap (s.setBuffer b (some (x.merged q gw o bytes idle))) := by
  obtain ⟨hranges, hwf⟩ := h.pool.ranges b x hx
  obtain ⟨⟨-, hstaged, -, hw⟩, -⟩ := (inRanges_iff x).mp hranges
  have hopen := merged_isOpen (q := q) (gw := gw) (o := o) (bytes := bytes) ho idle
  have hset := State.setBuffer_buffer s b (some (x.merged q gw o bytes idle))
  have hwayX := onWay_eq_false_of_open ho
  have hwayY := onWay_eq_false_of_open hopen
  refine ⟨?_, ?_, ?_, fun c => by rw [State.setBuffer_channel]; exact h.channels c⟩
  · refine h.pool.set hx hset rfl (fun c => by rw [State.setBuffer_channel]; exact .refl _) rfl
      ⟨rfl, rfl, merged_ranges ho (attempts_of_open h.pool hx ho) hq hbytes hpage hstaged hwf hw idle, fun _ => ho,
        fun hy => absurd hy (by rw [hwayY]; exact Bool.false_ne_true), ?_⟩ h.pool.lists.2.2.1 (fun _ _ => Iff.rfl) ?_
    · obtain ⟨_, _, hp⟩ := (isOpen_iff _).mp hopen
      simp only [State.channelFits, hp]
    · rw [notSealed_of_open hopen]
      exact iff_of_false (h.pool.not_listed hx (notSealed_of_open ho)) Bool.false_ne_true
  · refine SlotLaw.keep h.slots (fun _ => rfl) fun b' q' => coming_of_set hx hset (fun hc => ?_) fun n hn => ?_
    · rw [not_open_of_committing hc] at ho
      cases ho
    · change inSet (joinSet x.writers q.toNat) n = true
      rw [inSet_joinSet, hn, Bool.true_or]
  · exact h.queues.same (sameOwners_of_aside (fun c => by rw [State.setBuffer_channel]; exact ⟨rfl, rfl⟩) rfl (slotsBy_id fun _ => rfl)
      (fun b' z => way_of_set hset fun w hw => by cases hx.symm.trans hw; exact hwayX)
      fun b' z => wayBack_of_set hset fun w hw => by cases hw; exact hwayY)

/-- A WRITE is merged into an OPEN buffer, which may be sealed at once (R29). -/
theorem Core.mergeInto (h : Core none s) (hx : s.buffer b = some x) (ho : x.isOpen = true) (hq : q ≠ 0) (hbytes : bytes ≠ [])
    (hpage : o + bytes.length ≤ 256) : Core none (s.mergeInto b q gw o bytes) := by
  have hmerged : Core none (s.setBuffer b (some (x.merged q gw o bytes s.params.coalesceIdle))) :=
    h.merged hx ho hq hbytes hpage _
  rw [mergeInto_eq hx]
  split
  next => exact hmerged.sealBuffer b
  next => exact hmerged

/-! #### A buffer opens (R26, R28) -/

theorem PoolLaw.opened (h : PoolLaw s) (hfree : s.buffer b = none) (hy : y.inRanges = true ∧ cellsWf y.staged) (ho : y.isOpen = true)
    (hroom : (s.liveOn y.channel y.page).length < 2)
    (hclosed : ∀ a x, s.buffer a = some x → x.channel = y.channel → x.page = y.page → x.isOpen = false)
    (hbuf : ∀ b', t.buffer b' = if b' = b then some y else s.buffer b') (hopen : t.openOrder = s.openOrder ++ [b])
    (hl : t.sealList = s.sealList) (hst : ∀ c, t.channel c = s.channel c) (hr : t.restart = s.restart) : PoolLaw t := by
  obtain ⟨hnodup, hlive, hsealNodup, hsealed⟩ := h.lists
  have hself : t.buffer b = some y := (hbuf b).trans (if_pos rfl)
  have hother {b' : BufferId} (hb : b' ≠ b) : t.buffer b' = s.buffer b' := (hbuf b').trans (if_neg hb)
  have hnot : b ∉ s.openOrder := fun hmem => by
    have := (hlive b).mp hmem
    rw [hfree] at this
    cases this
  have hne {a : BufferId} (ha : a ∈ s.openOrder) : a ≠ b := fun hab => hnot (hab ▸ ha)
  refine ⟨fun b' z hz => ?_, ⟨?_, fun b' => ?_, by rwa [hl], fun b' => ?_⟩, ?_, fun c pg => ?_, fun b' z hz => ?_⟩
  · by_cases hb : b' = b
    · subst hb; cases hself.symm.trans hz; exact hy
    · exact h.ranges b' z ((hother hb).symm.trans hz)
  · rw [hopen]
    exact List.nodup_append.mpr ⟨hnodup, List.nodup_singleton b, fun a ha c hc => by rw [List.mem_singleton.mp hc]; exact hne ha⟩
  · rw [hopen]
    by_cases hb : b' = b
    · subst hb; simp [hself]
    · simp [hb, hother hb, hlive]
  · rw [hl, hsealed, State.bufferHas, State.bufferHas]
    by_cases hb : b' = b
    · subst hb; rw [hself, hfree]; simp [notSealed_of_open ho]
    · rw [hother hb]
  · rw [hopen]
    refine List.pairwise_append.mpr ⟨?_, List.pairwise_singleton .., fun a ha c hc => ?_⟩
    · refine h.order.imp_of_mem fun ha hc hac => ?_
      intro z w hz hw
      exact hac z w ((hother (hne ha)).symm.trans hz) ((hother (hne hc)).symm.trans hw)
    · rw [List.mem_singleton.mp hc]
      intro z w hz hw hcw hpw
      cases hself.symm.trans hw
      exact ⟨hclosed a z ((hother (hne ha)).symm.trans hz) hcw.symm hpw.symm, onWay_eq_false_of_open ho⟩
  · have hold : s.openOrder.filter (fun b => t.bufferHas b (Buffer.isOn c pg)) = s.liveOn c pg :=
      List.filter_congr fun a ha => by rw [State.bufferHas, State.bufferHas, hother (hne ha)]
    rw [State.liveOn, State.liveWith, hopen, List.filter_append, hold, List.length_append]
    by_cases hon : y.channel = c ∧ y.page = pg
    · obtain ⟨rfl, rfl⟩ := hon
      have hone : ([b].filter fun b => t.bufferHas b (Buffer.isOn y.channel y.page)).length ≤ 1 := List.length_filter_le ..
      omega
    · have hnone : [b].filter (fun b => t.bufferHas b (Buffer.isOn c pg)) = [] := by
        rw [List.filter_eq_nil_iff]
        intro a ha
        rw [List.mem_singleton.mp ha, bufferHas_of_some hself, isOn_iff]
        exact hon
      rw [hnone]
      exact h.room c pg
  · by_cases hb : b' = b
    · subst hb
      cases hself.symm.trans hz
      obtain ⟨_, _, hp⟩ := (isOpen_iff _).mp ho
      simp only [State.channelFits, hp]
    · rw [channelFits_congr (s := s) (by rw [hst]; exact .refl _) hr]
      exact h.holds b' z ((hother hb).symm.trans hz)

/-- A buffer opens for a page without an OPEN one, and its first bytes are merged (R28). -/
theorem Core.opened (h : Core none s) {c : ChannelId} {pg : BitVec 16}
    (hnone : (s.liveOn c pg).find? (fun b => s.bufferHas b Buffer.isOpen) = none) (hroom : (s.liveOn c pg).length < 2)
    (hfree : s.freeBuffer = some b) (hq : q ≠ 0) (hbytes : bytes ≠ []) (hpage : o + bytes.length ≤ 256) :
    Core none ((s.openBuffer b c pg).mergeInto b q gw o bytes) := by
  have hb : s.buffer b = none := by
    have := List.find?_some (p := fun b => (s.buffer b).isNone) hfree
    simpa using this
  have hfresh : (s.fresh c pg).isOpen = true := rfl
  have hopen := merged_isOpen (q := q) (gw := gw) (o := o) (bytes := bytes) hfresh s.params.coalesceIdle
  have hbuf (b' : BufferId) : ((s.openBuffer b c pg).setBuffer b
      (some ((s.fresh c pg).merged q gw o bytes s.params.coalesceIdle))).buffer b'
      = if b' = b then some ((s.fresh c pg).merged q gw o bytes s.params.coalesceIdle) else s.buffer b' := by
    rw [State.setBuffer_buffer]
    split
    next => rfl
    next hne => exact (openBuffer_buffer ..).trans (if_neg hne)
  have hchannel (c' : ChannelId) : ((s.openBuffer b c pg).setBuffer b
      (some ((s.fresh c pg).merged q gw o bytes s.params.coalesceIdle))).channel c' = s.channel c' := by cases c' <;> rfl
  have hcore : Core none ((s.openBuffer b c pg).setBuffer b (some ((s.fresh c pg).merged q gw o bytes s.params.coalesceIdle))) := by
    refine ⟨?_, ?_, ?_, fun c' => by rw [hchannel]; exact h.channels c'⟩
    · refine h.pool.opened hb (merged_ranges hfresh rfl hq hbytes hpage rfl nil_wf (inSet_zero 0) _) hopen hroom (fun a x hx hc hp => ?_) hbuf
        rfl rfl hchannel rfl
      rw [List.find?_eq_none] at hnone
      have hmem : a ∈ s.liveOn c pg := by
        have := mem_liveOn_self h.pool.lists hx
        rwa [hc, hp] at this
      have hno := hnone a hmem
      rw [bufferHas_of_some hx] at hno
      simpa using hno
    · refine SlotLaw.keep h.slots (fun _ => rfl) fun b' q' hcoming => ?_
      obtain ⟨z, hz, hc, hw⟩ := hcoming
      have hne : b' ≠ b := fun heq => by rw [heq, hb] at hz; cases hz
      exact ⟨z, by rw [hbuf, if_neg hne, hz], hc, hw⟩
    · exact h.queues.same (sameOwners_of_aside (fun c' => by rw [hchannel]; exact ⟨rfl, rfl⟩) rfl (slotsBy_id fun _ => rfl)
        (fun b' z => way_of_set hbuf fun w hw => by rw [hb] at hw; cases hw)
        fun b' z => wayBack_of_set hbuf fun w hw => by cases hw; exact onWay_eq_false_of_open hopen)
  rw [mergeInto_eq (x := s.fresh c pg) ((openBuffer_buffer ..).trans (if_pos rfl))]
  split
  next => exact hcore.sealBuffer b
  next => exact hcore

end Merge

/-! #### An operation joins the queue of an online channel (R53, R75, R92) -/

section Join
variable {s t : State} {c : ChannelId} {k : OpKind} {request : StoreRequest} {n : Nat}

/-- An operation as it joins: the head of an IDLE channel starts at once (R75). -/
def joining (k : OpKind) (state : ChannelState) : Op := ⟨k, if state = .idle then 1 else 0⟩

theorem queue_nil_iff_idle {ch : Channel} (hl : ch.lawful) (hon : ch.state.online = true) : ch.queue = [] ↔ ch.state = .idle := by
  refine ⟨fun hq => ?_, queue_eq_nil_of_idle hl⟩
  obtain ⟨-, hworking, -⟩ := hl
  cases hs : ch.state with
  | idle => rfl
  | busy => exact absurd hq (hworking (by rw [hs]; rfl)).1
  | quiescing | offline => rw [hs] at hon; cases hon

theorem attemptsFit_joining (k : OpKind) (state : ChannelState) (number : BitVec 8) :
    AttemptsFit (if state = .idle then some number else none) (joining k state).attempts := by
  unfold joining
  split
  · exact ⟨Nat.le_refl 1, (by decide : 1 ≤ 8)⟩
  · rfl

theorem Core.joined (h : Core none s) (hon : (s.channel c).state.online = true) (hroom : s.queueHasRoom c = true)
    (hchannel : ∀ c', t.channel c' = if c' = c then (s.channel c).withOp k request n else s.channel c')
    (hpool : PoolLaw t) (hslots : SlotLaw t) (hr : t.restart = s.restart) (hbuffer : ∀ b, t.buffer b = s.buffer b)
    (hreads : ∀ i x, s.slot i = some x → x.fetchesRead = true → t.slot i = some x)
    (hback : ∀ i y, t.slot i = some y → y.fetchesRead = true → s.slot i = some y ∨ (joining k (s.channel c).state).slotRef = some i)
    (hfit : t.opFits c (if (s.channel c).state = .idle then some (t.channel c).number else none) (joining k (s.channel c).state) = true)
    (hnewBuffer : ∀ b, (joining k (s.channel c).state).bufferRef = some b → b ∉ s.queuedBuffers)
    (hnewSlot : ∀ i, (joining k (s.channel c).state).slotRef = some i → i ∉ s.queuedSlots)
    (hclear : ∀ a ∈ (s.channel c).queue, a.mayPrecede (joining k (s.channel c).state) = true) : Core none t := by
  have hlaw := h.channels.lawful (c := c) fun _ hg => by cases hg
  have hidle := queue_nil_iff_idle hlaw hon
  have hself : t.channel c = _ := (hchannel c).trans (if_pos rfl)
  have hother (c' : ChannelId) (hc : c' ≠ c) : t.channel c' = s.channel c' := (hchannel c').trans (if_neg hc)
  refine ⟨hpool, hslots, ?_, h.channels.set hother (fun ⟨_, hg⟩ => by cases hg) fun _ => ?_⟩
  · refine h.queues.append (op := joining k (s.channel c).state) (c := c) (fun c' => ?_) (fun c' hc => by rw [hother c' hc]) ?_ hr
      (fun b x hx _ => (hbuffer b).trans hx) (fun b y hy _ => .inl ((hbuffer b).symm.trans hy)) hreads hback ?_ hnewBuffer hnewSlot
      hclear
    · split
      next hc => rw [hc, hself, withOp_queue hidle.mpr]; rfl
      next hc => rw [hother c' hc]
    · by_cases hi : (s.channel c).state = .idle
      · exact .inl (hidle.mpr hi)
      · refine .inr ?_
        rw [State.headNumber, State.headNumber, hself, withOp_number_behind hi]
    · simp only [hidle, State.headNumber]
      exact hfit
  · rw [hself]
    exact withOp_lawful hlaw hon ((queueHasRoom_iff s c).mp hroom)

/-- A deferred READ: the slot is allocated and its FETCH joins (R53). -/
theorem Core.deferred (h : Core none s) {i : SlotId} {q : ReqId} {pg : BitVec 16} {o n : Nat} {overlay : List (Option Byte)}
    (hq : q ≠ 0) (hon : (s.channel c).state.online = true) (hlen : overlay.length = n) (hpart : overlay.all Option.isSome = false)
    (hslot : s.slot i = none) (hroom : s.queueHasRoom c = true) (hn : 1 ≤ n ∧ n ≤ 64) (hpage : o + n ≤ 256) :
    Core none ((s.allocate i q (.read ⟨c, pg, o, n, overlay, none⟩)).appendOp c (.fetch pg o n i)) := by
  rw [deferred_eq (h.channels.lawful fun _ hg => by cases hg)]
  generalize hy : (⟨s.issuedTicket, q, .read ⟨c, pg, o, n, overlay,
    if (s.channel c).state = .idle then some ((s.channel c).number + 1) else none⟩, .fetching⟩ : Slot) = y
  have hreads : y.fetchesRead = true := by rw [← hy]; rfl
  have hranges : y.inRanges = true := by
    rw [← hy]
    simp only [Slot.inRanges, ReadWork.fits, Bool.and_eq_true, decide_eq_true_eq, bne_iff_ne, beq_iff_eq, Bool.not_eq_true',
      Config.largestTransfer, Config.pageBytes]
    exact ⟨hq, ⟨⟨hn, hpage⟩, hlen⟩, hpart⟩
  generalize hch : (s.channel c).withOp (.fetch pg o n i) (.fetch pg o n) s.params.opTimeout = ch
  refine Core.of_same (s := (s.setSlot i (some y)).setChannel c ch) ?_ ⟨rfl, rfl, rfl, rfl, rfl, rfl, rfl⟩
  have hslots (j : SlotId) : ((s.setSlot i (some y)).setChannel c ch).slot j = if j = i then some y else s.slot j := by
    rw [State.setChannel_slot, State.setSlot_slot]
  have hchannel (c' : ChannelId) : ((s.setSlot i (some y)).setChannel c ch).channel c' = if c' = c then
      (s.channel c).withOp (.fetch pg o n i) (.fetch pg o n) s.params.opTimeout else s.channel c' := by
    rw [State.setChannel_channel, State.setSlot_channel, hch]
  have hbuffer (b : BufferId) : ((s.setSlot i (some y)).setChannel c ch).buffer b = s.buffer b := State.setChannel_buffer ..
  refine h.joined hon hroom hchannel ?_ ?_ (State.setChannel_restart ..) hbuffer (fun j x hx _ => ?_) (fun j z hz _ => ?_) ?_
    (fun b hb => by cases hb) (fun j hj hmem => ?_) fun a _ => rfl
  · refine h.pool.standing hbuffer (State.setChannel_openOrder ..) (State.setChannel_sealList ..) (fun c' => ?_)
      (State.setChannel_restart ..)
    rw [hchannel]
    split
    next hc => rw [hc]; exact sameStanding_withOp
    next => exact .refl _
  · refine Waits.mono (Waits.set h.slots hslots hranges fun b hb => absurd hb (not_waitsOn_of_reads hreads)) fun b q => ?_
    exact coming_congr hbuffer
  · rw [hslots]
    split
    next hj => subst hj; rw [hslot] at hx; cases hx
    next => exact hx
  · rw [hslots] at hz
    split at hz
    next hj => exact .inr (by rw [hj]; rfl)
    next => exact .inl hz
  · refine (opFits_fetch_iff (pg := pg) (o := o) (n := n) (i := i) rfl).mpr ⟨attemptsFit_joining .., y, (hslots i).trans (if_pos rfl), ?_,
      overlay, ?_⟩
    · rw [← hy]
    · rw [hchannel, if_pos rfl, ← hy]
      by_cases hi : (s.channel c).state = .idle
      · simp only [hi, if_true, Channel.withOp]
      · simp only [hi, if_false]
  · obtain rfl : i = j := Option.some.inj hj
    obtain ⟨c', a, ha, hai⟩ := mem_queuedSlots.mp hmem
    obtain ⟨x, hx, -⟩ := h.queues.fetches_of_ref ha hai
    rw [hslot] at hx
    cases hx

/-- A CLEAR of a sector without live buffers joins: no PROGRAM of the sector is queued (R92). -/
theorem Core.cleared (h : Core none s) {sector : BitVec 12} {q : ReqId} (hq : q ≠ 0) (hon : (s.channel c).state.online = true)
    (hlive : s.sectorLive c sector = false) (hroom : s.queueHasRoom c = true) : Core none (s.appendOp c (.clear sector q)) := by
  rw [appendOp_clear (h.channels.lawful fun _ hg => by cases hg)]
  generalize hch : (s.channel c).withOp (.clear sector q) (.clear sector) s.params.opTimeout = ch
  have hchannel (c' : ChannelId) : (s.setChannel c ch).channel c' = if c' = c then
      (s.channel c).withOp (.clear sector q) (.clear sector) s.params.opTimeout else s.channel c' := by
    rw [State.setChannel_channel, hch]
  refine h.joined hon hroom hchannel (h.pool.setChannel (hch ▸ sameStanding_withOp)) (SlotLaw.setChannel h.slots c ch)
    (State.setChannel_restart ..) (fun b => State.setChannel_buffer ..) (fun i x hx _ => (State.setChannel_slot ..).trans hx)
    (fun i y hy _ => .inl ((State.setChannel_slot ..).symm.trans hy)) ?_ (fun b hb => by cases hb) (fun i hi => by cases hi)
    fun a ha => ?_
  · exact (opFits_clear_iff (sector := sector) (q := q) rfl).mpr ⟨attemptsFit_joining .., hq⟩
  · have hno : a.programsUnder sector = false := by
      cases hk : a.kind with
      | fetch | clear => simp [Op.programsUnder, hk]
      | program pg b =>
        rw [Bool.eq_false_iff]
        intro hyes
        simp only [Op.programsUnder, hk, beq_iff_eq] at hyes
        obtain ⟨number, hfit⟩ := h.queues.fits_of_mem ha
        obtain ⟨-, x, hx, hc, hp, -⟩ := (opFits_program_iff hk).mp hfit
        have hmem : b ∈ s.openOrder := (h.pool.lists.2.1 b).mpr (by rw [hx]; rfl)
        have hsector : s.sectorLive c sector = true := by
          rw [← hyes]
          exact sectorLive_iff.mpr ⟨b, x, hmem, hx, hc, by rw [hp]⟩
        rw [hlive] at hsector
        cases hsector
    simp only [Op.mayPrecede, joining, hno, Bool.not_false]

end Join

end Sys2Proof.Machine

/-! ### Management operations keep the core (R64, R65, R86, R90, R100 to R104, R150) -/

namespace Sys2Proof.Machine

section Recovery
variable {s : State} {b : BufferId} {x : Buffer} {c : ChannelId}

/-! #### BUFFER_RETRY (R100, R101) -/

theorem perm_insertBefore (b m : BufferId) (l : List BufferId) : (insertBefore b m l).Perm (b :: l) := by
  induction l with
  | nil => exact .refl _
  | cons a l ih =>
    rw [insertBefore]
    split
    next => exact .refl _
    next => exact (ih.cons a).trans (.swap b a l)

theorem perm_sealListWith (s : State) (b : BufferId) (x : Buffer) : (s.sealListWith b x).Perm (b :: s.sealList) := by
  unfold State.sealListWith
  split
  next => exact perm_insertBefore ..
  next => exact List.perm_append_singleton ..

theorem notSealed_of_held {cause : HoldCause} (h : x.phase = .held cause) : x.isSealed = false := by
  simp [Buffer.isSealed, h]

theorem Core.retryBuffer (h : Core none s) (hx : s.buffer b = some x) (hheld : x.isHeld = true)
    (hon : (s.channel x.channel).state.online = true) : Core none (s.retryBuffer b x) := by
  obtain ⟨cause, hp⟩ := (isHeld_iff x).mp hheld
  have hwayX := onWay_eq_false_of_held hp
  have hwayY : x.returned.onWay = false := onWay_eq_false_of_sealed rfl
  have hperm := perm_sealListWith s b x
  have hset := State.setBuffer_buffer s b (some x.returned)
  have hchannel (c : ChannelId) : ({ s.setBuffer b (some x.returned) with sealList := s.sealListWith b x } : State).channel c
      = s.channel c := by cases c <;> rfl
  have hnot : b ∉ s.sealList := h.pool.not_listed hx (notSealed_of_held hp)
  have hcore : Core none { s.setBuffer b (some x.returned) with sealList := s.sealListWith b x } := by
    refine ⟨?_, ?_, ?_, fun c => by rw [hchannel]; exact h.channels c⟩
    · refine h.pool.set hx hset rfl (fun c => by rw [hchannel]; exact .refl _) rfl
        (h.pool.stepTo hx rfl rfl (fun hy => by cases hy) (fun hy => by rw [hwayY] at hy; cases hy)
          (sealedFits (x := x.returned) (by rw [hchannel]; exact hon) rfl)) ?_ (fun b' hb' => ?_) ?_
      · exact hperm.nodup_iff.mpr (List.nodup_cons.mpr ⟨hnot, h.pool.lists.2.2.1⟩)
      · exact hperm.mem_iff.trans (by simp [hb'])
      · exact iff_of_true (hperm.mem_iff.mpr (List.mem_cons_self ..)) rfl
    · exact SlotLaw.keep h.slots (fun _ => rfl) fun b' q => coming_of_set hx hset (fun _ => rfl) fun _ h => h
    · exact h.queues.same (sameOwners_of_aside (fun c => by rw [hchannel]; exact ⟨rfl, rfl⟩) rfl (slotsBy_id fun _ => rfl)
        (fun b' z => way_of_set hset fun w hw => by cases hx.symm.trans hw; exact hwayX)
        fun b' z => wayBack_of_set hset fun w hw => by cases hw; exact hwayY)
  exact (hcore.tryEnqueue (moving_none _) _).1

/-! #### BUFFER_DISCARD (R103, R104) -/

theorem releaseBuffer_buffer (s : State) (b b' : BufferId) : (s.releaseBuffer b).buffer b' = if b' = b then none else s.buffer b' :=
  State.setBuffer_buffer ..

theorem releaseBuffer_channel (s : State) (b : BufferId) (c : ChannelId) : (s.releaseBuffer b).channel c = s.channel c := by
  cases c <;> rfl

theorem Core.releaseHeld (h : Core none s) {cause : HoldCause} (hx : s.buffer b = some x) (hp : x.phase = .held cause) :
    Core none (s.releaseBuffer b) := by
  have hbuf := releaseBuffer_buffer s b
  refine ⟨?_, ?_, ?_, fun c => by rw [releaseBuffer_channel]; exact h.channels c⟩
  · exact h.pool.freed hx (notSealed_of_held hp) hbuf rfl (fun c => by rw [releaseBuffer_channel]; exact .refl _) rfl rfl
  · refine SlotLaw.keep h.slots (fun _ => rfl) fun b' q => coming_of_buffers fun a z hz hc => ⟨z, ?_, hc, fun _ h => h⟩
    rw [hbuf]
    split
    next hab =>
      subst hab
      cases hx.symm.trans hz
      rw [hp] at hc
      cases hc
    next => exact hz
  · exact h.queues.same (sameOwners_of_aside (fun c => by rw [releaseBuffer_channel]; exact ⟨rfl, rfl⟩) rfl (slotsBy_id fun _ => rfl)
      (fun b' z => way_of_set hbuf fun w hw => by cases hx.symm.trans hw; exact onWay_eq_false_of_held hp)
      fun b' z => wayBack_of_set hbuf fun w hw => by cases hw)

theorem Core.discard (h : Core none s) {cause : HoldCause} (hx : s.buffer b = some x) (hp : x.phase = .held cause) (e : Event) :
    Core none (((s.append e).releaseBuffer b).tryEnqueue x.channel) :=
  (((h.append e).releaseHeld ((append_buffer e s b).trans hx) hp).tryEnqueue (moving_none _) _).1

end Recovery

/-! #### CHANNEL_OFFLINE and CHANNEL_ONLINE (R86, R90) -/

section Channels
variable {s t : State} {c : ChannelId} {ch : Channel}

/-- A channel changes its state or streak, not its queue. -/
theorem sameOwners_setChannel (hq : ch.queue = (s.channel c).queue) (hn : ch.number = (s.channel c).number) :
    SameOwners s (s.setChannel c ch) := by
  refine sameOwners_of_aside (fun c' => ?_) (State.setChannel_restart ..) (slotsBy_id fun _ => State.setChannel_slot ..)
    (fun b x hx _ => (State.setChannel_buffer ..).trans hx) fun b y hy _ => (State.setChannel_buffer ..).symm.trans hy
  rw [State.setChannel_channel]
  split
  next hc => rw [hc]; exact ⟨hq, hn⟩
  next => exact ⟨rfl, rfl⟩

theorem Core.requestOffline (h : Core none s) (c : ChannelId) : Core none (s.requestOffline c) := by
  have hlaw := h.channels.lawful (c := c) fun _ hg => by cases hg
  obtain ⟨hplaces, hworking, hrest, hstreak, hlow⟩ := hlaw
  unfold State.requestOffline
  split
  next hs =>
    obtain ⟨hq, ht⟩ := hrest (by rw [hs]; rfl)
    have hgap : Core (some (c, none)) s := ⟨h.pool, h.slots, h.queues.regap_empty (gapAt_none c) (gapAt_some c none) hq,
      h.channels.toGap (gapAt_none c) none (fun _ _ => rfl) ⟨hplaces, ht, hstreak⟩⟩
    exact hgap.offlineEntry (by rw [hs]; decide) _
  next hs =>
    refine ⟨h.pool.quiesce (by rw [hs]; decide) rfl, SlotLaw.setChannel h.slots c _, h.queues.same (sameOwners_setChannel rfl rfl),
      h.channels.set (fun c' hc => by rw [State.setChannel_channel, if_neg hc]) (by rintro ⟨_, hg⟩; cases hg) fun _ => ?_⟩
    rw [State.setChannel_channel_self]
    exact ⟨hplaces, fun _ => hworking (by rw [hs]; rfl), fun hno => (by cases hno), hstreak, fun _ => hlow (by rw [hs]; decide)⟩
  next => exact h
  next => exact h

/-- The buffers of a channel that a CHANNEL_ONLINE returns. -/
abbrev State.returning (s : State) (c : ChannelId) : List BufferId := s.liveWith fun x => x.channel == c && x.heldByOffline

theorem mem_returning (hl : s.listsLawful) {b : BufferId} {x : Buffer} (hx : s.buffer b = some x) :
    b ∈ s.returning c ↔ x.channel = c ∧ x.phase = .held .channelOffline := by
  have hmem : b ∈ s.openOrder := (hl.2.1 b).mpr (by rw [hx]; rfl)
  simp only [State.returning, mem_liveWith, hmem, hx, heldByOffline_eq, Bool.and_eq_true, beq_iff_eq, true_and, Option.some.injEq,
    exists_eq_left']

/-- The state of a channel that comes online, its buffers returned (R90). -/
structure CameOnline (c : ChannelId) (s t : State) : Prop where
  buffer : ∀ b, t.buffer b = if b ∈ s.returning c then (s.buffer b).map Buffer.returned else s.buffer b
  openOrder : t.openOrder = s.openOrder
  sealList : t.sealList = s.sealList ++ s.returning c
  slot : ∀ i, t.slot i = s.slot i
  channel : ∀ c', t.channel c' = if c' = c then { s.channel c with streak := 0, state := .idle } else s.channel c'
  restart : t.restart = s.restart

theorem cameOnline (s : State) (c : ChannelId) : CameOnline c s
    ((s.returning c).foldl State.returnSealed (s.setChannel c { s.channel c with streak := 0, state := .idle })) := by
  have hlive : ∀ b ∈ s.returning c, (s.setChannel c { s.channel c with streak := 0, state := .idle }).buffer b ≠ none := by
    intro b hb
    obtain ⟨-, x, hx, -⟩ := mem_liveWith.mp hb
    rw [State.setChannel_buffer, hx]
    exact Option.some_ne_none x
  obtain ⟨hbuffer, hrest⟩ := foldl_returnSealed (s.returning c) _ hlive
  refine ⟨fun b => ?_, ?_, ?_, fun i => ?_, fun c' => ?_, ?_⟩
  · rw [hbuffer, State.setChannel_buffer]
  · rw [hrest]; exact State.setChannel_openOrder ..
  · rw [hrest]; exact congrArg (· ++ s.returning c) (State.setChannel_sealList ..)
  · rw [hrest]; exact State.setChannel_slot ..
  · rw [← State.setChannel_channel, hrest]
    cases c' <;> rfl
  · rw [hrest]; exact State.setChannel_restart ..

theorem CameOnline.pool (k : CameOnline c s t) (h : PoolLaw s) : PoolLaw t := by
  obtain ⟨hnodup, hlive, hsealNodup, hsealed⟩ := h.lists
  have hpending : t.restartPending = s.restartPending := by rw [State.restartPending, k.restart]; rfl
  refine h.step (by rw [k.openOrder]) (fun b => ?_) (fun b y hy => ?_) ?_ fun b => ?_
  · rw [k.openOrder, hlive, k.buffer]
    split
    next => rw [Option.isSome_map]
    next => rfl
  · rw [k.buffer] at hy
    split at hy
    next hb =>
      obtain ⟨x, hx, rfl⟩ := Option.map_eq_some_iff.mp hy
      obtain ⟨hxc, hxp⟩ := (mem_returning h.lists hx).mp hb
      have hwayY : x.returned.onWay = false := onWay_eq_false_of_sealed rfl
      refine ⟨x, hx, h.stepTo hx rfl rfl (fun hy => by cases hy) (fun hy => by rw [hwayY] at hy; cases hy) ?_⟩
      refine sealedFits (x := x.returned) ?_ rfl
      change (t.channel x.channel).state.online = true
      rw [hxc, k.channel, if_pos rfl]
      rfl
    next hb =>
      refine ⟨y, hy, h.same hy ?_⟩
      have hfit := h.holds b y hy
      by_cases hyc : y.channel = c
      · have hstate : (t.channel y.channel).state = .idle := by rw [hyc, k.channel, if_pos rfl]
        unfold State.channelFits
        rw [hstate]
        split
        next => rfl
        next => rfl
        next => exact Bool.or_true _
        next hp => exact absurd ((mem_returning h.lists hy).mpr ⟨hyc, hp⟩) hb
        next => rfl
        next => rfl
      · rwa [channelFits_congr (s := s) (by rw [k.channel, if_neg hyc]; exact .refl _) k.restart]
  · rw [k.sealList]
    refine List.nodup_append.mpr ⟨hsealNodup, hnodup.filter _, fun a ha b hb => ?_⟩
    rintro rfl
    obtain ⟨x, hx, hxs⟩ := bufferHas_iff.mp ((hsealed a).mp ha)
    obtain ⟨-, hxp⟩ := (mem_returning h.lists hx).mp hb
    rw [notSealed_of_held hxp] at hxs
    cases hxs
  · rw [k.sealList, List.mem_append, hsealed, State.bufferHas, State.bufferHas, k.buffer]
    by_cases hb : b ∈ s.returning c
    · obtain ⟨-, x, hx, -⟩ := mem_liveWith.mp hb
      simp [hb, hx, Buffer.returned, Buffer.isSealed]
    · simp [hb]

theorem CameOnline.core (k : CameOnline c s t) (h : Core none s) (hc : (s.channel c).state = .offline) : Core none t := by
  have hlaw := h.channels.lawful (c := c) fun _ hg => by cases hg
  obtain ⟨-, -, hrest, -, -⟩ := hlaw
  obtain ⟨hq, ht⟩ := hrest (by rw [hc]; rfl)
  have hkeep {b : BufferId} {x : Buffer} (hx : s.buffer b = some x) (hno : x.phase ≠ .held .channelOffline) : t.buffer b = some x := by
    rw [k.buffer, if_neg fun hb => hno ((mem_returning h.pool.lists hx).mp hb).2, hx]
  refine ⟨k.pool h.pool, SlotLaw.keep h.slots k.slot fun b q => coming_of_buffers fun b x hx hcom => ⟨x, hkeep hx ?_, hcom, fun _ h => h⟩,
    h.queues.same (sameOwners_of_aside (fun c' => ?_) k.restart (slotsBy_id k.slot) (fun b x hx hw => hkeep hx ?_) fun b y hy hw => ?_),
    h.channels.set (fun c' hc' => by rw [k.channel, if_neg hc']) (by rintro ⟨_, hg⟩; cases hg) fun _ => ?_⟩
  · intro hp
    rw [hp] at hcom
    cases hcom
  · rw [k.channel]
    split
    next hc' => rw [hc']; exact ⟨rfl, rfl⟩
    next => exact ⟨rfl, rfl⟩
  · intro hp
    rw [onWay_eq_false_of_held hp] at hw
    cases hw
  · rw [k.buffer] at hy
    split at hy
    next =>
      obtain ⟨x, -, rfl⟩ := Option.map_eq_some_iff.mp hy
      rw [onWay_eq_false_of_sealed (x := x.returned) rfl] at hw
      cases hw
    next => exact hy
  · rw [k.channel, if_pos rfl]
    exact ⟨by rw [hq]; exact Nat.zero_le _, fun hw => (by cases hw), fun _ => ⟨hq, ht⟩, Nat.zero_le _, fun _ => Nat.zero_le _⟩

theorem Core.bringOnline (h : Core none s) (hc : (s.channel c).state = .offline) : Core none (s.bringOnline c) :=
  ((((cameOnline s c).core h hc).tryEnqueue (moving_none _) c).1).append _

end Channels

/-! #### RESTART is taken (R94, R150) -/

section Restart
variable {s : State} {c : ChannelId}

theorem drained_sublist (ch : Channel) : ch.drained.queue.Sublist ch.queue := by
  unfold Channel.drained
  split
  next => exact List.take_sublist ..
  next => exact List.nil_sublist _

theorem drained_lawful {ch : Channel} (h : ch.lawful) : ch.drained.lawful := by
  obtain ⟨hplaces, hworking, hrest, hstreak, hlow⟩ := h
  refine ⟨(drained_sublist ch).length_le.trans hplaces, fun hw => ?_, fun hw => ?_, hstreak, hlow⟩
  · obtain ⟨hq, ht⟩ := hworking hw
    refine ⟨?_, ht⟩
    change ch.state.working = true at hw
    rw [Channel.drained, if_pos hw]
    simpa using hq
  · change ch.state.working = false at hw
    refine ⟨?_, (hrest hw).2⟩
    rw [Channel.drained, hw]
    rfl

/-- A RESTART empties the queues but for the operations in progress. -/
def State.draining (s : State) (q : ReqId) : State := { s with restart := some q, sc0 := s.sc0.drained, sc1 := s.sc1.drained }

theorem draining_channel (s : State) (q : ReqId) (c : ChannelId) : (s.draining q).channel c = (s.channel c).drained := by
  cases c <;> rfl

/-- A programming buffer's operation is the head of its channel, which works. -/
theorem Core.head_of_programming (h : Core none s) {b : BufferId} {x : Buffer} (hx : s.buffer b = some x) (hp : x.phase = .programming) :
    ∃ c op, op ∈ (s.channel c).drained.queue ∧ op.bufferRef = some b := by
  obtain ⟨c, op, hop, hb⟩ := mem_queuedBuffers.mp (h.queues.owned b x hx (.inl hp))
  obtain ⟨-, -, hrest, -⟩ := h.channels.lawful (c := c) fun _ hg => by cases hg
  refine ⟨c, op, ?_, hb⟩
  have hfits := h.queues.fits c
  cases hq : (s.channel c).queue with
  | nil => rw [hq] at hop; cases hop
  | cons a rest =>
    rw [hq] at hop hfits
    have hw : (s.channel c).state.working = true := by
      cases hw : (s.channel c).state.working with
      | true => rfl
      | false =>
        have hnil := (hrest hw).1
        rw [hq] at hnil
        cases hnil
    rw [Channel.drained, if_pos hw, hq]
    rcases List.mem_cons.mp hop with rfl | hop
    · exact List.mem_cons_self ..
    · have hfit := hfits.2 op hop
      cases hk : op.kind with
      | program pg b' =>
        obtain rfl : b' = b := by simpa [Op.bufferRef, hk] using hb
        obtain ⟨-, y, hy, -, -, -, hyp⟩ := (opFits_program_iff hk).mp hfit
        cases hx.symm.trans hy
        rw [hp] at hyp
        cases hyp
      | fetch | clear => simp [Op.bufferRef, hk] at hb

theorem fitsFrom_head {t : State} {number : Option (BitVec 8)} {a : Op} {l : List Op} (h : s.FitsFrom c number (a :: l))
    (hkept : OwnersKept s t [a]) : t.FitsFrom c number [a] :=
  hkept.fitsFrom ⟨h.1, fun r hr => by cases hr⟩

theorem Core.draining (h : Core none s) (q : ReqId) : Core none (s.draining q) := by
  have hsub (c : ChannelId) : ((s.draining q).channel c).queue.Sublist (s.channel c).queue := by
    rw [draining_channel]
    exact drained_sublist _
  have hops : (s.draining q).allOps.Sublist s.allOps := (hsub .sc0).append (hsub .sc1)
  refine ⟨?_, fun i x hx => h.slots i x hx, ⟨fun c => ?_, ?_, ?_, fun b x hx hp => ?_, fun hr => (by cases hr), fun c => ?_⟩, fun c => ?_⟩
  · refine h.pool.refit (fun _ => rfl) rfl rfl fun b x hx => ?_
    have hfit := h.pool.holds b x hx
    have hstate : ((s.draining q).channel x.channel).state = (s.channel x.channel).state := by rw [draining_channel]; rfl
    unfold State.channelFits at hfit ⊢
    rw [hstate]
    split at hfit
    next => exact hfit
    next => exact hfit
    next => rfl
    next => exact hfit
    next => rfl
    next => rfl
  · have hfits := h.queues.fits c
    have hkept (a : Op) : OwnersKept s (s.draining q) [a] :=
      ⟨fun _ _ _ _ x hx _ => ⟨x, hx, rfl, rfl, rfl, rfl⟩, fun _ _ _ _ x hx _ => ⟨x, hx, rfl, rfl⟩⟩
    rw [State.headNumber, draining_channel, Channel.drained]
    split
    next =>
      cases hq : (s.channel c).queue with
      | nil => trivial
      | cons a rest =>
        rw [hq] at hfits
        exact fitsFrom_head hfits (hkept a)
    next => trivial
  · exact h.queues.buffersOnce.sublist (hops.filterMap _)
  · exact h.queues.slotsOnce.sublist (hops.filterMap _)
  · obtain ⟨c, op, hop, hb⟩ := h.head_of_programming hx (hp.resolve_right fun hq => by cases hq.2)
    exact mem_queuedBuffers.mpr ⟨c, op, by rwa [draining_channel], hb⟩
  · exact (h.queues.clears c).sublist (hsub c)
  · have hlaw := drained_lawful (h.channels.lawful (c := c) fun _ hg => by cases hg)
    rw [← draining_channel s q] at hlaw
    exact hlaw

theorem Core.takeRestart (h : Core none s) (q : ReqId) : Core none (s.takeRestart q) := (h.draining q).settleRestart

end Restart

/-! #### FLUSH with wait (R64, R65) -/

section Wait
variable {s : State} {q : ReqId} {i : SlotId}

theorem slot_eq_none_of_tickets {t : State} (h : SameTickets s t) (hi : s.slot i = none) : t.slot i = none := by
  have hslot := h.slots i
  rw [hi, Option.map_none, Option.map_eq_none_iff] at hslot
  exact hslot

/-- After the seals of a requester that can commit, every buffer it waits on is on its way. -/
theorem Core.coming_of_waited (h : Core none s) (hcan : s.cannotCommit q = false) {b : BufferId} (hb : b ∈ s.waitedBy q) :
    (s.sealAllOf (s.openBy q)).Coming b q := by
  have hcalm := calm_of_laws (channelLaw_none_iff.mp h.channels) h.pool.lists
  obtain ⟨hmem, x, hx, hyes⟩ := mem_liveWith.mp hb
  simp only [Bool.and_eq_true, Bool.not_eq_true', Buffer.writtenBy] at hyes
  obtain ⟨hheld, hw⟩ := hyes
  obtain ⟨y, hy, hxy⟩ := (seals_sealAllOf hcalm (s.openBy q)).live b x hx
  have hwriters : inSet y.writers q.toNat = true := by
    have hsame : y.writers = x.writers := by rw [hxy.data]
    rw [hsame, hw]
  refine ⟨y, hy, ?_, hwriters⟩
  cases ho : x.isOpen with
  | true =>
    refine hxy.onWay ho (mem_liveWith.mpr ⟨hmem, x, hx, by simp [Buffer.writtenBy, ho, hw]⟩) ?_
    by_contra hoff
    have hstuck : s.cannotCommit q = true := cannotCommit_iff.mpr ⟨b, x, hmem, hx, hw, .inr ⟨ho, Bool.eq_false_iff.mpr hoff⟩⟩
    rw [hcan] at hstuck
    cases hstuck
  | false =>
    refine hxy.committing ?_
    obtain ⟨_, _, _, _, _, _, phase, _⟩ := x
    cases phase with
    | opened => cases ho
    | held => cases hheld
    | sealed | queued | programming => rfl

theorem waitSet_ne_zero {bs : List BufferId} (h : bs ≠ []) : setOfList 12 (bs.map Fin.val) ≠ 0 := by
  obtain ⟨b, hb⟩ := List.exists_mem_of_ne_nil _ h
  intro hzero
  have hmem := inSet_waitSet bs b
  rw [hzero, show (0 : BitVec 12) = 0#12 from rfl, inSet_zero, decide_eq_true hb] at hmem
  cases hmem

theorem Core.waited (h : Core none s) (hq : q ≠ 0) (hcan : s.cannotCommit q = false) (hsome : s.waitedBy q ≠ [])
    (hslot : s.slot i = none) :
    Core none ((s.sealAllOf (s.openBy q)).allocate i q (.sync (setOfList 12 ((s.waitedBy q).map Fin.val)))) := by
  have hfree := slot_eq_none_of_tickets (sameTickets_sealAllOf (s.openBy q) s) hslot
  refine Core.of_same (s := (s.sealAllOf (s.openBy q)).setSlot i (some ⟨(s.sealAllOf (s.openBy q)).issuedTicket, q,
    .sync (setOfList 12 ((s.waitedBy q).map Fin.val)), .fetching⟩)) ?_ ⟨rfl, rfl, rfl, rfl, rfl, rfl, rfl⟩
  refine (h.sealAllOf _).setSlot (fun x hx => by rw [hfree] at hx; cases hx) fun y hy => ?_
  cases hy
  refine ⟨rfl, ?_, fun b hb => ?_⟩
  · simp only [Slot.inRanges, Bool.and_eq_true, bne_iff_ne]
    exact ⟨hq, waitSet_ne_zero hsome⟩
  · obtain ⟨m, hm, -, hmem⟩ := hb
    cases hm
    rw [inSet_waitSet, decide_eq_true_eq] at hmem
    exact h.coming_of_waited hcan hmem

end Wait

/-! #### Operations that leave pool, slots, queues and channels -/

theorem sameCore_removeRecords (s : State) (n : Nat) : SameCore s (s.removeRecords n) := by
  unfold State.removeRecords
  split <;> exact ⟨rfl, rfl, rfl, rfl, rfl, rfl, rfl⟩

theorem sameCore_setParams (s : State) (ps : Params) :
    SameCore s (if ps.noticeTarget = s.params.noticeTarget then { s with params := ps } else { s with params := ps }.retarget) := by
  split
  next => exact ⟨rfl, rfl, rfl, rfl, rfl, rfl, rfl⟩
  next =>
    unfold State.retarget
    split <;> exact ⟨rfl, rfl, rfl, rfl, rfl, rfl, rfl⟩

end Sys2Proof.Machine

/-! ### Every service and every other effect keeps the core -/

namespace Sys2Proof.Machine

section Parts
variable {s t : State} {i : Instr}

theorem findOpen_some {c : ChannelId} {pg : BitVec 16} {b : BufferId}
    (hb : (s.liveOn c pg).find? (fun b => s.bufferHas b Buffer.isOpen) = some b) : ∃ x, s.buffer b = some x ∧ x.isOpen = true := by
  have hyes := List.find?_some (p := fun b => s.bufferHas b Buffer.isOpen) hb
  exact bufferHas_iff.mp hyes

theorem Core.pressureSeal (h : Core none s) : Core none s.pressureSeal := by
  unfold State.pressureSeal
  split
  next => exact h.sealBuffer _
  next => exact h

theorem Work.core (hw : Work s i t) (h : Core none s) : Core none t := by
  cases hw with
  | same => exact h
  | busy | overlayHit => exact h.of_same (sameCore_setCounters ..)
  | deferred p i q c pg o n hq hon hpart hslot hroom hn hpage =>
    have hlen : (s.overlay c pg o n).length = n := by rw [State.overlay, List.length_map, List.length_range]
    exact (h.deferred hq hon hlen hpart (slotFor_some hslot) hroom hn hpage).of_same (sameCore_setCounters ..)
  | merged p b q w gw c pg o bytes hq hgw hon hbytes hpage hb =>
    obtain ⟨x, hx, ho⟩ := findOpen_some hb
    exact (h.mergeInto hx ho hq hbytes hpage).of_same (sameCore_used ..)
  | opened p b q w gw c pg o bytes hq hgw hon hbytes hpage hnone hlive hfree =>
    exact (h.opened hnone hlive hfree hq hbytes hpage).of_same (sameCore_used ..)
  | pressure => exact h.pressureSeal.of_same (sameCore_setCounters ..)
  | cleared p q w c sector hq hon hlive hroom => exact (h.cleared hq hon hlive hroom).of_same (sameCore_used ..)
  | collected p i x hx hf => exact h.freeSlot hx fun hp => by simp [Slot.isFetching, hp] at hf
  | granted => exact h.of_same (sameCore_setGrant ..)
  | released => exact h.endGrant _
  | flushed | sealedAll => exact h.sealAllOf _
  | waited p i q hq hcan hsome hslot => exact h.waited hq hcan hsome (slotFor_some hslot)
  | loaded | windowCleared => exact (h.of_same (sameCore_setWindow ..)).revokeGrant ..
  | revoked => exact h.revokeGrant ..
  | retried p b x hx hheld hon => exact h.retryBuffer hx hheld hon
  | discarded p b x q cause hx hp => exact h.discard hx hp _
  | wentOffline => exact h.requestOffline _
  | cameOnline p c hc => exact h.bringOnline hc
  | removed => exact h.of_same (sameCore_removeRecords ..)
  | zeroed | managersSet => exact h.of_same ⟨rfl, rfl, rfl, rfl, rfl, rfl, rfl⟩
  | paramSet => exact h.of_same (sameCore_setParams ..)
  | restarted => exact h.takeRestart _

theorem Core.setPort (h : Core none s) (p : PortId) (q : Port) : Core none (s.setPort p q) := (portsOnly_setPort s p q).core h

theorem Core.arrive (h : Core none s) (p : PortId) (f : List Byte) : Core none (s.arrive p f) := by
  rcases arrive_or p f s with ⟨q, hq⟩ | ⟨q, hq⟩
  · rw [hq]; exact h.setPort p q
  · rw [hq]; exact (h.setPort p q).append _

theorem elapse_inProgress {c : ChannelId} {op : Op} (n : Micros) (hop : (s.channel c).inProgress = some op) :
    ((s.elapse n).countTimeout.channel c).inProgress = some op := by
  rw [State.countTimeout, State.setCounters_channel, elapse_channel]
  exact hop

theorem Core.timeout (h : Core none s) (hparams : s.paramsLawful) {c : ChannelId} {op : Op} (left : Micros)
    (hop : (s.channel c).inProgress = some op) : Core none ((s.elapse left).countTimeout.failedAttempt c op) := by
  have hop' := elapse_inProgress left hop
  obtain ⟨rest, hq⟩ := queue_of_inProgress hop'
  exact ((h.elapse left).of_same (sameCore_setCounters ..)).failedAttempt hparams (working_of_inProgress hop') hq

theorem Core.holdExpiry (h : Core none s) {i : SlotId} {x : Slot} {left : Micros} (hx : s.slot i = some x)
    (hl : x.holdLeft = some left) : Core none ((s.elapse left).abandonSlot i x) := by
  have hslot : (s.elapse left).slot i = some { x with phase := x.phase.elapse left } := by rw [elapse_slot, hx, Option.map_some]
  refine (h.elapse left).abandonSlot hslot ?_
  obtain ⟨_, _, _, phase⟩ := x
  cases phase with
  | fetching => cases hl
  | ready | failed => exact SlotPhase.noConfusion

theorem Effect.core (he : Effect s i t) (h : Core none s) (hparams : s.paramsLawful) : Core none t := by
  cases he with
  | nothing => exact h
  | arrival => exact h.arrive ..
  | linkUp | linkDown => exact (h.setPort ..).append _
  | transmissionEnd => exact h.setPort ..
  | completion c status bytes op hop => exact (h.takeCompletion hparams hop status bytes).settleRestart
  | late => exact (h.of_same (sameCore_setCounters ..)).append _
  | timeout c left op ht hop => exact (h.timeout hparams left hop).settleRestart
  | idleExpiry | limitExpiry => exact (h.elapse _).sealBuffer _
  | holdExpiry i x left hx hl => exact h.holdExpiry hx hl
  | grantExpiry => exact ((h.elapse _).endGrant _).append _

end Parts

end Sys2Proof.Machine

/-! ### Tickets and grant windows: what a step leaves of them (R36, R50) -/

namespace Sys2Proof.Machine

/-- A live buffer names the window. -/
def State.Names (s : State) (b : BufferId) (w : WindowId) : Prop := ∃ x, s.buffer b = some x ∧ inSet x.grantWindows w = true

/-- No slot of t has another ticket than in s, and no buffer names a window it did not name. -/
structure Lesser (s t : State) : Prop where
  tickets : ∀ i, t.ticketOf i = none ∨ t.ticketOf i = s.ticketOf i
  names : ∀ b w, t.Names b w → s.Names b w

section Lesser
variable {s t u : State} {b : BufferId} {i : SlotId} {x y : Buffer}

theorem Lesser.refl (s : State) : Lesser s s := ⟨fun _ => .inr rfl, fun _ _ h => h⟩

theorem Lesser.trans (h : Lesser s t) (k : Lesser t u) : Lesser s u := by
  refine ⟨fun i => ?_, fun b w hu => h.names b w (k.names b w hu)⟩
  rcases k.tickets i with hn | he
  · exact .inl hn
  · rw [he]; exact h.tickets i

/-- The same in the order in which the last change is named first. -/
theorem Lesser.after (k : Lesser t u) (h : Lesser s t) : Lesser s u := h.trans k

theorem names_congr (h : ∀ b, t.buffer b = s.buffer b) (b : BufferId) (w : WindowId) (ht : t.Names b w) : s.Names b w := by
  obtain ⟨x, hx, hw⟩ := ht
  exact ⟨x, (h b).symm.trans hx, hw⟩

theorem Onward.names (h : Onward s t) (b : BufferId) (w : WindowId) (ht : t.Names b w) : s.Names b w := by
  obtain ⟨y, hy, hw⟩ := ht
  cases hx : s.buffer b with
  | none => rw [h.free b hx] at hy; cases hy
  | some x =>
    obtain ⟨z, hz, hxz⟩ := h.live b x hx
    cases hy.symm.trans hz
    refine ⟨x, hx, ?_⟩
    rcases hxz with rfl | ⟨n, rfl | rfl⟩ <;> exact hw

theorem lesser_of (hs : SameTickets s t) (hn : ∀ b w, t.Names b w → s.Names b w) : Lesser s t :=
  ⟨fun i => .inr (hs.ticketOf i), hn⟩

theorem lesser_onward (hs : SameTickets s t) (ho : Onward s t) : Lesser s t := lesser_of hs ho.names

theorem lesser_same (hs : t.slots = s.slots) (hb : t.buffers = s.buffers) : Lesser s t :=
  lesser_of (sameTickets_of_slots hs) (names_congr fun b => by simp only [State.buffer, hb])

theorem SameCore.lesser (h : SameCore s t) : Lesser s t := lesser_same h.slots h.buffers

theorem names_map {g : Buffer → Buffer} (hb : ∀ b, t.buffer b = (s.buffer b).map g)
    (hg : ∀ x w, inSet (g x).grantWindows w = true → inSet x.grantWindows w = true) (b : BufferId) (w : WindowId)
    (ht : t.Names b w) : s.Names b w := by
  obtain ⟨y, hy, hw⟩ := ht
  rw [hb] at hy
  obtain ⟨x, hx, rfl⟩ := Option.map_eq_some_iff.mp hy
  exact ⟨x, hx, hg x w hw⟩

theorem lesser_setBuffer (hx : s.buffer b = some x) (hy : y.grantWindows = x.grantWindows) : Lesser s (s.setBuffer b (some y)) := by
  refine lesser_of (sameTickets_of_slots rfl) fun b' w ⟨z, hz, hw⟩ => ?_
  rw [State.setBuffer_buffer] at hz
  split at hz
  next hb => cases hz; exact ⟨x, hb ▸ hx, hy ▸ hw⟩
  next => exact ⟨z, hz, hw⟩

theorem lesser_releaseBuffer (s : State) (b : BufferId) : Lesser s (s.releaseBuffer b) := by
  refine lesser_of (sameTickets_of_slots rfl) fun b' w ⟨z, hz, hw⟩ => ?_
  rw [releaseBuffer_buffer] at hz
  split at hz
  next => cases hz
  next => exact ⟨z, hz, hw⟩

theorem lesser_setSlot {x y : Slot} (hx : s.slot i = some x) (ht : y.ticket = x.ticket) : Lesser s (s.setSlot i (some y)) := by
  refine ⟨fun j => .inr ?_, fun b w h => h⟩
  rw [State.ticketOf, State.ticketOf, State.setSlot_slot]
  split
  next hj => rw [hj, hx, Option.map_some, Option.map_some, ht]
  next => rfl

theorem lesser_freeSlot (s : State) (i : SlotId) : Lesser s (s.setSlot i none) := by
  refine ⟨fun j => ?_, fun b w h => h⟩
  rw [State.ticketOf, State.ticketOf, State.setSlot_slot]
  split
  next => exact .inl rfl
  next => exact .inr rfl

theorem lesser_setChannel (s : State) (c : ChannelId) (ch : Channel) : Lesser s (s.setChannel c ch) :=
  lesser_onward (sameTickets_setChannel ..) (onward_setChannel ..)

theorem lesser_append (e : Event) (s : State) : Lesser s (s.append e) := (sameCore_append e s).lesser

theorem lesser_setStore (s : State) (c : ChannelId) (m : Cells) : Lesser s (s.setStore c m) := (sameCore_setStore s c m).lesser

theorem lesser_setCounters (s : State) (k : PartCounters) : Lesser s (s.setCounters k) := (sameCore_setCounters s k).lesser

theorem lesser_foldl {α : Type} (f : State → α → State) (hf : ∀ s a, Lesser s (f s a)) (as : List α) (s : State) :
    Lesser s (as.foldl f s) := by
  induction as generalizing s with
  | nil => exact .refl s
  | cons a as ih => exact (hf s a).trans (ih (f s a))

/-! #### Seals, starts and moves -/

theorem lesser_tryEnqueue (s : State) (c : ChannelId) : Lesser s (s.tryEnqueue c) :=
  lesser_onward (sameTickets_tryEnqueue ..) (onward_tryEnqueue ..)

theorem lesser_startHead (s : State) (c : ChannelId) : Lesser s (s.startHead c) :=
  lesser_onward (sameTickets_startHead ..) (onward_startHead ..)

theorem lesser_appendOp (s : State) (c : ChannelId) (k : OpKind) : Lesser s (s.appendOp c k) :=
  lesser_onward (sameTickets_appendOp ..) (onward_appendOp ..)

theorem lesser_holdBuffer (s : State) (b : BufferId) (cause : HoldCause) : Lesser s (s.holdBuffer b cause) := by
  refine lesser_of (sameTickets_holdBuffer s b cause) fun b' w ⟨y, hy, hw⟩ => ?_
  rw [holdBuffer_buffer] at hy
  obtain ⟨x, hx, rfl⟩ := Option.map_eq_some_iff.mp hy
  refine ⟨x, hx, ?_⟩
  split at hw <;> exact hw

theorem lesser_listSealed (hx : s.buffer b = some x) (hy : y.grantWindows = x.grantWindows) : Lesser s (s.listSealed b y) :=
  (lesser_setBuffer hx hy (y := y.inPhase .sealed)).trans (lesser_same rfl rfl)

theorem lesser_sealBuffer (s : State) (b : BufferId) : Lesser s (s.sealBuffer b) := by
  unfold State.sealBuffer
  split
  next x hx =>
    split
    next =>
      split
      next => exact (lesser_listSealed hx rfl).trans (lesser_tryEnqueue ..)
      next => exact lesser_holdBuffer ..
    next => exact .refl s
  next => exact .refl s

theorem lesser_sealAllOf (s : State) (bs : List BufferId) : Lesser s (s.sealAllOf bs) := lesser_foldl _ lesser_sealBuffer bs s

/-! #### An operation leaves its queue -/

theorem lesser_fetchSucceeded (s : State) (i : SlotId) (n : BitVec 8) (bytes : List Byte) :
    Lesser s (s.fetchSucceeded i n bytes) := by
  unfold State.fetchSucceeded
  split
  next x hx =>
    split
    next => exact lesser_setSlot hx rfl
    next => exact .refl s
  next => exact .refl s

theorem lesser_fetchFailed (s : State) (c : ChannelId) (i : SlotId) (n : BitVec 8) : Lesser s (s.fetchFailed c i n) := by
  unfold State.fetchFailed
  split
  next x hx =>
    split
    next => exact (lesser_append ..).after (lesser_setSlot hx rfl)
    next => exact .refl s
  next => exact .refl s

theorem lesser_fetchRemoved (s : State) (i : SlotId) : Lesser s (s.fetchRemoved i) := by
  unfold State.fetchRemoved
  split
  next x hx =>
    split
    next => exact lesser_setSlot hx rfl
    next => exact .refl s
  next => exact .refl s

theorem memberProgrammed_keeps (b : BufferId) (hold : Micros) (x : Slot) :
    (x.memberProgrammed b hold).ticket = x.ticket ∧ (x.memberProgrammed b hold).requester = x.requester := by
  rcases memberProgrammed_or b hold x with ⟨-, h⟩ | ⟨m, -, -, h⟩
  · rw [h]; exact ⟨rfl, rfl⟩
  · rw [h]; exact ⟨rfl, rfl⟩

theorem lesser_programSucceeded (s : State) (b : BufferId) : Lesser s (s.programSucceeded b) :=
  (lesser_releaseBuffer s b).trans (lesser_of (sameTickets_mapSlots (memberProgrammed_keeps b _)) fun _ _ h => h)

theorem lesser_opSucceeded (s : State) (c : ChannelId) (k : OpKind) (n : BitVec 8) (bytes : List Byte) :
    Lesser s (s.opSucceeded c k n bytes) := by
  unfold State.opSucceeded
  refine (lesser_setStore s c (takenAfter (s.store c) (s.requestOf k))).trans ?_
  cases k with
  | fetch => exact lesser_fetchSucceeded ..
  | program => exact (lesser_programSucceeded ..).trans (lesser_setCounters ..)
  | clear => exact .refl _

theorem lesser_opFailed (s : State) (c : ChannelId) (k : OpKind) (n : BitVec 8) : Lesser s (s.opFailed c k n) := by
  cases k with
  | fetch => exact lesser_fetchFailed ..
  | program => exact (lesser_holdBuffer ..).trans (lesser_append ..)
  | clear => exact lesser_append ..

theorem lesser_opRemoved (c : ChannelId) (s : State) (op : Op) : Lesser s (State.opRemoved c s op) := by
  unfold State.opRemoved
  split
  next => exact lesser_fetchRemoved ..
  next => exact lesser_holdBuffer ..
  next => exact lesser_append ..

theorem lesser_holdSealed (s : State) (c : ChannelId) : Lesser s (s.holdSealed c) :=
  (lesser_foldl _ (fun t b => lesser_holdBuffer t b _) _ _).after (lesser_same rfl rfl)

theorem lesser_offlineEntry (s : State) (c : ChannelId) (cause : OfflineCause) : Lesser s (s.offlineEntry c cause) :=
  (((lesser_foldl _ (lesser_opRemoved c) _ s).trans (lesser_holdSealed ..)).trans (lesser_setChannel ..)).trans (lesser_append ..)

theorem lesser_afterLeaving (s : State) (c : ChannelId) : Lesser s (s.afterLeaving c) := by
  refine (lesser_tryEnqueue s c).trans ?_
  unfold State.afterLeaving
  simp only
  split
  next =>
    split
    next => exact lesser_setChannel ..
    next => exact lesser_startHead ..
  next => exact lesser_offlineEntry ..
  next => exact .refl _
  next => exact .refl _

theorem lesser_headSucceeded (s : State) (c : ChannelId) (op : Op) (bytes : List Byte) : Lesser s (s.headSucceeded c op bytes) :=
  ((lesser_setChannel ..).trans (lesser_opSucceeded ..)).trans (lesser_afterLeaving ..)

theorem lesser_failedFinally (s : State) (c : ChannelId) (op : Op) : Lesser s ((s.noteFailure c).headFailedFinally c op) :=
  ((lesser_setChannel s c _).trans (lesser_setCounters ..)).trans ((lesser_setChannel ..).trans (lesser_opFailed ..))

theorem lesser_failedAttempt (s : State) (c : ChannelId) (op : Op) : Lesser s (s.failedAttempt c op) := by
  unfold State.failedAttempt
  split
  next => exact (lesser_failedFinally ..).trans (lesser_offlineEntry ..)
  next =>
    split
    next => exact (lesser_failedFinally ..).trans (lesser_afterLeaving ..)
    next =>
      split
      next => exact ((lesser_setChannel s c _).trans (lesser_setCounters ..)).trans (lesser_startHead ..)
      next => exact (lesser_failedFinally ..).trans (lesser_afterLeaving ..)

/-! #### Management operations -/

theorem lesser_retryBuffer (hx : s.buffer b = some x) : Lesser s (s.retryBuffer b x) :=
  (lesser_tryEnqueue ..).after ((lesser_setBuffer hx rfl (y := x.returned)).trans (lesser_same rfl rfl))

theorem lesser_returnSealed (s : State) (b : BufferId) : Lesser s (s.returnSealed b) := by
  unfold State.returnSealed
  split
  next x hx => exact lesser_listSealed hx rfl
  next => exact .refl s

theorem lesser_requestOffline (s : State) (c : ChannelId) : Lesser s (s.requestOffline c) := by
  unfold State.requestOffline
  split
  next => exact lesser_offlineEntry ..
  next => exact lesser_setChannel ..
  next => exact .refl s
  next => exact .refl s

theorem lesser_elapse (n : Micros) (s : State) : Lesser s (s.elapse n) := by
  refine ⟨fun i => .inr ?_, names_map (elapse_buffer s n) fun _ _ h => h⟩
  rw [State.ticketOf, State.ticketOf, elapse_slot, Option.map_map]
  rfl

end Lesser

end Sys2Proof.Machine

/-! ### The laws of tickets, grant windows and stores, in every service and every other effect (R36, R50, R76) -/

namespace Sys2Proof.Machine

theorem grantWindowsLawful_iff (s : State) : s.grantWindowsLawful ↔ ∀ b w, s.Names b w → s.grantOf w ≠ none := by
  simp only [State.grantWindowsLawful, bufferHas_iff, State.Names]

/-- The laws of tickets and grant windows, while RESET_N is not asserted. -/
structure SideLaw (s : State) : Prop where
  awake : s.resetAsserted = false
  tickets : s.ticketsLawful
  windows : ∀ b w, s.Names b w → s.grantOf w ≠ none

section SideLaw
variable {s t : State} {i : SlotId} {b : BufferId} {w : WindowId} {q : ReqId}

theorem ticketsLawful_of_lesser (h : s.ticketsLawful) (k : Lesser s t) (hc : t.ticketCounter = s.ticketCounter) : t.ticketsLawful := by
  obtain ⟨hcounter, hzero, honce⟩ := h
  refine ⟨by rwa [hc], fun i => ?_, fun i j hij hi => ?_⟩
  · rcases k.tickets i with hn | he
    · rw [hn]; exact (Option.some_ne_none _).symm
    · rw [he]; exact hzero i
  · have hsame : t.ticketOf i = s.ticketOf i := (k.tickets i).resolve_left hi
    rcases k.tickets j with hn | he
    · rwa [hn]
    · rw [hsame, he]
      exact honce i j hij (by rwa [← hsame])

theorem SideLaw.step (h : SideLaw s) (k : Lesser s t) (ha : t.resetAsserted = s.resetAsserted)
    (hc : t.ticketCounter = s.ticketCounter) (hg : ∀ b w, t.Names b w → s.grantOf w ≠ none → t.grantOf w ≠ none) : SideLaw t where
  awake := ha.trans h.awake
  tickets := ticketsLawful_of_lesser h.tickets k hc
  windows := fun b w hn => hg b w hn (h.windows b w (k.names b w hn))

theorem SideLaw.inside (h : SideLaw s) (k : Lesser s t) (hin : Inside s t) : SideLaw t :=
  h.step k hin.resetAsserted hin.ticketCounter fun _ w _ hw => by rwa [State.grantOf, hin.grants]

theorem SideLaw.work (h : SideLaw s) (k : Lesser s t) (hw : WorkOnly s t) : SideLaw t := h.inside k hw.inside

theorem SideLaw.append (h : SideLaw s) (e : Event) : SideLaw (s.append e) := h.inside (lesser_append ..) (inside_append ..)

theorem SideLaw.setCounters (h : SideLaw s) (k : PartCounters) : SideLaw (s.setCounters k) :=
  h.inside (lesser_setCounters ..) (inside_setCounters ..)

theorem SideLaw.sealBuffer (h : SideLaw s) (b : BufferId) : SideLaw (s.sealBuffer b) :=
  h.work (lesser_sealBuffer ..) (workOnly_sealBuffer ..)

theorem SideLaw.sealAllOf (h : SideLaw s) (bs : List BufferId) : SideLaw (s.sealAllOf bs) :=
  h.work (lesser_sealAllOf ..) (workOnly_sealAllOf ..)

theorem SideLaw.tryEnqueue (h : SideLaw s) (c : ChannelId) : SideLaw (s.tryEnqueue c) :=
  h.work (lesser_tryEnqueue ..) (workOnly_tryEnqueue ..)

theorem SideLaw.appendOp (h : SideLaw s) (c : ChannelId) (k : OpKind) : SideLaw (s.appendOp c k) :=
  h.work (lesser_appendOp ..) (workOnly_appendOp ..)

/-- What names neither slots, pool, grants nor RESET_N. -/
theorem SideLaw.same (h : SideLaw s) (hs : t.slots = s.slots) (hb : t.buffers = s.buffers) (hg : t.grants = s.grants)
    (hc : t.ticketCounter = s.ticketCounter) (ha : t.resetAsserted = s.resetAsserted) : SideLaw t :=
  h.step (lesser_same hs hb) ha hc fun _ w _ hw => by rwa [State.grantOf, hg]

theorem SideLaw.setPort (h : SideLaw s) (p : PortId) (x : Port) : SideLaw (s.setPort p x) := by
  cases p <;> exact h.same rfl rfl rfl rfl rfl

theorem SideLaw.setWindow (h : SideLaw s) (w : WindowId) (e : WindowEntry) : SideLaw (s.setWindow w e) := h.same rfl rfl rfl rfl rfl

theorem SideLaw.elapse (h : SideLaw s) (n : Micros) : SideLaw (s.elapse n) :=
  h.step (lesser_elapse ..) rfl rfl fun _ w _ hw => by
    rw [elapse_grantOf]
    exact fun hn => hw (Option.map_eq_none_iff.mp hn)

/-! #### Grants -/

theorem SideLaw.setGrant (h : SideLaw s) (w : WindowId) (g : Grant) : SideLaw (s.setGrant w (some g)) := by
  refine h.step (sameCore_setGrant ..).lesser rfl rfl fun _ v _ hv => ?_
  rw [State.setGrant_grantOf]
  split
  next => exact Option.some_ne_none g
  next => exact hv

theorem SideLaw.used (h : SideLaw s) (w : WindowId) : SideLaw (s.used w) := by
  unfold State.used State.useGrant
  split
  next =>
    split
    next => exact h.setGrant ..
    next => exact h
  next => exact h

/-- A grant ends: its buffers are sealed, and no buffer names its window any more (R36). -/
theorem SideLaw.endGrant (h : SideLaw s) (w : WindowId) : SideLaw (s.endGrant w) := by
  have hk : Lesser s ((s.setGrant w none).sealAllOf (s.openUnder w)) :=
    (sameCore_setGrant s w none).lesser.trans (lesser_sealAllOf ..)
  have hwork := workOnly_endGrant s w
  have hforget : Lesser ((s.setGrant w none).sealAllOf (s.openUnder w)) (s.endGrant w) := by
    refine lesser_of (sameTickets_of_slots rfl) (names_map (forgetGrant_buffer _ w) fun x v hv => ?_)
    rw [inSet_leaveSet, Bool.and_eq_true] at hv
    exact hv.1
  refine h.step (hk.trans hforget) hwork.resetAsserted hwork.ticketCounter fun b v hn hv => ?_
  have hne : v ≠ w := by
    rintro rfl
    obtain ⟨y, hy, hin⟩ := hn
    rw [State.endGrant, forgetGrant_buffer] at hy
    obtain ⟨x, -, rfl⟩ := Option.map_eq_some_iff.mp hy
    rw [inSet_leaveSet] at hin
    simp at hin
  rw [State.grantOf, hwork.grants]
  change (s.setGrant w none).grantOf v ≠ none
  rwa [State.setGrant_grantOf, if_neg hne]

theorem SideLaw.revokeGrant (h : SideLaw s) (w : WindowId) (cause : RevokeCause) : SideLaw (s.revokeGrant w cause) := by
  unfold State.revokeGrant
  split
  next => exact (h.endGrant w).append _
  next => exact h

/-! #### Tickets -/

theorem nextTicket_ne_zero {k : BitVec 8} (h : k ≠ 0) : nextTicket k ≠ 0 := iterate_nextTicket_ne_zero h 1

/-- An allocation issues a ticket no live slot holds (R50). -/
theorem SideLaw.allocate (h : SideLaw s) (hi : s.slot i = none) (work : SlotWork) : SideLaw (s.allocate i q work) := by
  obtain ⟨hcounter, hzero, honce⟩ := h.tickets
  obtain ⟨k, -, heq, hfree, -⟩ := issuedTicket_spec hcounter hi
  have hissued : s.issuedTicket ≠ 0 := heq ▸ iterate_nextTicket_ne_zero hcounter k
  have hnew (j : SlotId) : s.ticketOf j ≠ some s.issuedTicket := fun hj => by
    rw [(ticketLive_iff _).mpr ⟨j, hj⟩] at hfree
    cases hfree
  have hticket (j : SlotId) : (s.allocate i q work).ticketOf j = if j = i then some s.issuedTicket else s.ticketOf j := by
    have hslot : (s.allocate i q work).slot j = if j = i then some ⟨s.issuedTicket, q, work, .fetching⟩ else s.slot j :=
      State.setSlot_slot ..
    rw [State.ticketOf, hslot]
    split <;> rfl
  refine ⟨h.awake, ⟨nextTicket_ne_zero hissued, fun j => ?_, fun j j' hne hj => ?_⟩, h.windows⟩
  · rw [hticket]
    split
    next => exact fun hs => hissued (Option.some.inj hs)
    next => exact hzero j
  · rw [hticket] at hj
    rw [hticket, hticket]
    by_cases hji : j = i
    · have hj' : j' ≠ i := fun h => hne (hji.trans h.symm)
      rw [if_pos hji, if_neg hj']
      exact (hnew j').symm
    · rw [if_neg hji] at hj ⊢
      split
      next => exact hnew j
      next => exact honce j j' hne hj

/-! #### A WRITE (R29) -/

theorem SideLaw.merged (h : SideLaw s) {x : Buffer} {gw : Option WindowId} {o : Nat} {bytes : List Byte} (idle : Micros)
    (hx : s.buffer b = some x) (hgw : ∀ v, gw = some v → s.grantOf v ≠ none) :
    SideLaw (s.setBuffer b (some (x.merged q gw o bytes idle))) := by
  refine ⟨h.awake, h.tickets, fun b' v hn => ?_⟩
  change s.grantOf v ≠ none
  obtain ⟨y, hy, hin⟩ := hn
  rw [State.setBuffer_buffer] at hy
  split at hy
  next =>
    cases hy
    cases gw with
    | none => exact h.windows b v ⟨x, hx, hin⟩
    | some w =>
      by_cases hv : v = w
      · exact hgw v (by rw [hv])
      · change inSet (joinSet x.grantWindows w) v = true at hin
        have hne : w.val ≠ v.val := fun heq => hv (Fin.ext heq.symm)
        rw [inSet_joinSet] at hin
        exact h.windows b v ⟨x, hx, by simpa [hne] using hin⟩
  next => exact h.windows b' v ⟨y, hy, hin⟩

theorem SideLaw.mergeInto (h : SideLaw s) {x : Buffer} {gw : Option WindowId} {o : Nat} {bytes : List Byte}
    (hx : s.buffer b = some x) (hgw : ∀ v, gw = some v → s.grantOf v ≠ none) : SideLaw (s.mergeInto b q gw o bytes) := by
  have hmerged : SideLaw (s.setBuffer b (some (x.merged q gw o bytes s.params.coalesceIdle))) := h.merged _ hx hgw
  rw [mergeInto_eq hx]
  split
  next => exact hmerged.sealBuffer b
  next => exact hmerged

theorem SideLaw.openBuffer (h : SideLaw s) (b : BufferId) (c : ChannelId) (pg : BitVec 16) : SideLaw (s.openBuffer b c pg) := by
  refine ⟨h.awake, h.tickets, fun b' v hn => ?_⟩
  change s.grantOf v ≠ none
  obtain ⟨y, hy, hin⟩ := hn
  rw [openBuffer_buffer] at hy
  split at hy
  next =>
    cases hy
    rw [show (s.fresh c pg).grantWindows = 0#24 from rfl, inSet_zero] at hin
    cases hin
  next => exact h.windows b' v ⟨y, hy, hin⟩

/-! #### Restart -/

theorem SideLaw.settleRestart (h : SideLaw s) : SideLaw s.settleRestart := by
  rcases settleRestart_or s with hs | ⟨q, -, -, hs⟩
  · rwa [hs]
  · rw [hs, completeRestart_eq]
    have hblank := blank_blanked s
    have hno (b : BufferId) (w : WindowId) : ¬ s.blanked.Names b w := fun ⟨x, hx, _⟩ => by rw [hblank.buffers] at hx; cases hx
    refine SideLaw.append (h.step ⟨fun i => .inl ?_, fun b w hn => absurd hn (hno b w)⟩ rfl rfl fun b w hn => absurd hn (hno b w)) _
    rw [State.ticketOf, hblank.slots]
    rfl

theorem SideLaw.takeRestart (h : SideLaw s) (q : ReqId) : SideLaw (s.takeRestart q) :=
  SideLaw.settleRestart (h.same rfl rfl rfl rfl rfl : SideLaw (s.draining q))

/-! #### Services and effects -/

theorem inside_requestOffline (s : State) (c : ChannelId) : Inside s (s.requestOffline c) := by
  unfold State.requestOffline
  split
  next => exact inside_offlineEntry ..
  next => exact (workOnly_setChannel ..).inside
  next => exact (WorkOnly.refl s).inside
  next => exact (WorkOnly.refl s).inside

theorem SideLaw.bringOnline (h : SideLaw s) (c : ChannelId) : SideLaw (s.bringOnline c) :=
  SideLaw.append ((((h.work (lesser_setChannel ..) (workOnly_setChannel ..)).work (lesser_foldl _ lesser_returnSealed _ _)
    (workOnly_foldl _ workOnly_returnSealed _ _)).tryEnqueue c)) _

theorem SideLaw.abandonSlot (h : SideLaw s) (i : SlotId) (x : Slot) : SideLaw (s.abandonSlot i x) :=
  ((h.work (lesser_freeSlot s i) (workOnly_setSlot ..)).setCounters _).append _

theorem Work.sideLaw {j : Instr} (hw : Work s j t) (h : SideLaw s) : SideLaw t := by
  cases hw with
  | same => exact h
  | busy | overlayHit => exact h.setCounters _
  | deferred p i q c pg o n hq hon hpart hslot => exact ((h.allocate (slotFor_some hslot) _).appendOp ..).setCounters _
  | merged p b q w gw c pg o bytes hq hgw hon hbytes hpage hb =>
    obtain ⟨x, hx, -⟩ := findOpen_some hb
    exact (h.mergeInto hx hgw).used w
  | opened p b q w gw c pg o bytes hq hgw =>
    exact ((h.openBuffer b c pg).mergeInto ((openBuffer_buffer ..).trans (if_pos rfl)) hgw).used w
  | pressure =>
    refine SideLaw.setCounters ?_ _
    unfold State.pressureSeal
    split
    next => exact h.sealBuffer _
    next => exact h
  | cleared => exact (h.appendOp ..).used _
  | collected => exact h.work (lesser_freeSlot ..) (workOnly_setSlot ..)
  | granted => exact h.setGrant ..
  | released => exact h.endGrant _
  | flushed | sealedAll => exact h.sealAllOf _
  | waited p i q hq hcan hsome hslot =>
    exact (h.sealAllOf _).allocate (slot_eq_none_of_tickets (sameTickets_sealAllOf ..) (slotFor_some hslot)) _
  | loaded | windowCleared => exact (h.setWindow ..).revokeGrant ..
  | revoked => exact h.revokeGrant ..
  | retried p b x hx => exact h.work (lesser_retryBuffer hx) (workOnly_retryBuffer ..)
  | discarded => exact ((h.append _).inside (lesser_releaseBuffer ..) (inside_releaseBuffer ..)).tryEnqueue _
  | wentOffline => exact h.inside (lesser_requestOffline ..) (inside_requestOffline ..)
  | cameOnline => exact h.bringOnline _
  | removed => unfold State.removeRecords; split <;> exact h.same rfl rfl rfl rfl rfl
  | zeroed | managersSet => exact h.same rfl rfl rfl rfl rfl
  | paramSet =>
    split
    next => exact h.same rfl rfl rfl rfl rfl
    next => unfold State.retarget; split <;> exact h.same rfl rfl rfl rfl rfl
  | restarted => exact h.takeRestart _

theorem SideLaw.arrive (h : SideLaw s) (p : PortId) (f : List Byte) : SideLaw (s.arrive p f) := by
  rcases arrive_or p f s with ⟨q, hq⟩ | ⟨q, hq⟩
  · rw [hq]; exact h.setPort p q
  · rw [hq]; exact (h.setPort p q).append _

theorem SideLaw.failedAttempt (h : SideLaw s) (c : ChannelId) (op : Op) : SideLaw (s.failedAttempt c op) :=
  h.inside (lesser_failedAttempt ..) (inside_failedAttempt ..)

theorem SideLaw.takeCompletion (h : SideLaw s) (c : ChannelId) (op : Op) (status : CompletionStatus) (bytes : List Byte) :
    SideLaw (s.takeCompletion c op status bytes) := by
  rcases takeCompletion_or s c op status bytes with ht | ⟨-, -, ht⟩
  · rw [ht]; exact h.failedAttempt ..
  · rw [ht]; exact h.inside (lesser_headSucceeded ..) (inside_headSucceeded ..)

theorem Effect.sideLaw {j : Instr} (he : Effect s j t) (h : SideLaw s) : SideLaw t := by
  cases he with
  | nothing => exact h
  | arrival => exact h.arrive ..
  | linkUp | linkDown => exact (h.setPort ..).append _
  | transmissionEnd => exact h.setPort ..
  | completion => exact (h.takeCompletion ..).settleRestart
  | late => exact (h.setCounters _).append _
  | timeout => exact (((h.elapse _).setCounters _).failedAttempt ..).settleRestart
  | idleExpiry | limitExpiry => exact (h.elapse _).sealBuffer _
  | holdExpiry => exact (h.elapse _).abandonSlot ..
  | grantExpiry => exact ((h.elapse _).endGrant _).append _

end SideLaw

/-! #### Stores -/

section Stores
variable {s t : State}

theorem storesLawful_iff (s : State) : s.storesLawful ↔ ∀ c, cellsWf (s.store c) := by
  refine ⟨fun ⟨h0, h1⟩ c => ?_, fun h => ⟨h .sc0, h .sc1⟩⟩
  cases c
  · exact h0
  · exact h1

theorem KeepsStores.storesLawful (k : KeepsStores s t) (h : s.storesLawful) : t.storesLawful := by
  rw [State.storesLawful, k.store0, k.store1]
  exact h

theorem takenAfter_wf {m : Cells} (h : cellsWf m) (r : StoreRequest) : cellsWf (takenAfter m r) := by
  cases r with
  | fetch => exact h
  | program pg staged => exact layCells_wf h _ _
  | clear sector => exact fillCells_wf h _ _ _

theorem storesLawful_setStore (h : s.storesLawful) {c : ChannelId} {m : Cells} (hm : cellsWf m) : (s.setStore c m).storesLawful := by
  obtain ⟨h0, h1⟩ := h
  cases c
  · exact ⟨hm, h1⟩
  · exact ⟨h0, hm⟩

theorem storesLawful_opSucceeded (h : s.storesLawful) (c : ChannelId) (k : OpKind) (n : BitVec 8) (bytes : List Byte) :
    (s.opSucceeded c k n bytes).storesLawful := by
  have hset : (s.setStore c (takenAfter (s.store c) (s.requestOf k))).storesLawful :=
    storesLawful_setStore h (takenAfter_wf ((storesLawful_iff s).mp h c) _)
  unfold State.opSucceeded
  cases k with
  | fetch => exact (workOnly_fetchSucceeded ..).keepsStores.storesLawful hset
  | program => exact hset
  | clear => exact hset

theorem storesLawful_headSucceeded (h : s.storesLawful) (c : ChannelId) (op : Op) (bytes : List Byte) :
    (s.headSucceeded c op bytes).storesLawful := by
  have hleft : (s.leftByHead c).storesLawful := (workOnly_setChannel ..).keepsStores.storesLawful h
  exact ((inside_afterLeaving ..).keepsStores (sameStores_afterLeaving ..)).storesLawful (storesLawful_opSucceeded hleft ..)

theorem Effect.storesLawful {i : Instr} (he : Effect s i t) (h : s.storesLawful) : t.storesLawful := by
  by_cases hok : TakesOk s i
  · cases he with
    | completion c status bytes op hop =>
      refine (keepsStores_settleRestart _).storesLawful ?_
      rcases takeCompletion_or s c op status bytes with ht | ⟨-, -, ht⟩
      · rw [ht]; exact (keepsStores_failedAttempt ..).storesLawful h
      · rw [ht]; exact storesLawful_headSucceeded h ..
    | nothing => exact h
    | late => exact ((dataOnly_setCounters ..).keepsStores.trans (keepsStores_append ..)).storesLawful h
    | _ => obtain ⟨c, bytes, op, hi, -⟩ := hok; cases hi
  · exact (he.keepsStores hok).storesLawful h

end Stores

end Sys2Proof.Machine

/-! ### Every step keeps every law -/

namespace Sys2Proof.Machine

section Step
variable {s t : State} {i : Instr}

theorem PortsOnly.sideLaw (k : PortsOnly s t) (h : SideLaw s) : SideLaw t := by
  rw [k]
  exact h.same rfl rfl rfl rfl rfl

theorem SideLaw.aside (h : SideLaw s) (hs : s.storesLawful) : Aside s :=
  ⟨h.tickets, (grantWindowsLawful_iff s).mpr h.windows, hs, fun ha => by rw [h.awake] at ha; cases ha⟩

theorem Aside.sideLaw (h : Aside s) (ha : s.resetAsserted = false) : SideLaw s :=
  ⟨ha, h.tickets, (grantWindowsLawful_iff s).mp h.grantWindows⟩

theorem Aside.setPending (h : Aside s) (rest : List Instr) : Aside { s with pending := rest } :=
  ⟨h.tickets, h.grantWindows, h.stores, fun ha => congrArg (fun u : State => { u with pending := rest }) (h.reset ha)⟩

theorem Answers.core (ha : Answers s i t) (h : Core none s) (hparams : s.paramsLawful) (hreset : s.resetLawful) : Core none t := by
  cases ha with
  | nothing => exact h
  | taken p serve f hi ho =>
    obtain ⟨-, -, -, -, hc⟩ := ho
    exact (portsOnly_afterTaking ..).core ((work_of_service _ hi hc).core ((portsOnly_beginTaking ..).core h))
  | event u _ hu => exact (portsOnly_placeNotice u).core (hu.core h hparams)
  | pinReset => exact blank_reset.core.of_same ⟨rfl, rfl, rfl, rfl, rfl, rfl, rfl⟩
  | deasserted mgid _ hs =>
    have hr : s.restart = none := by rw [hreset hs]; rfl
    exact h.of_same ⟨rfl, rfl, rfl, rfl, rfl, rfl, hr.symm⟩

theorem Answers.aside (ha : Answers s i t) (h : Aside s) : Aside t := by
  cases ha with
  | nothing => exact h
  | taken p serve f hi ho =>
    have hstores := (keepsStores_taken hi ho).storesLawful h.stores
    obtain ⟨hs, -, -, -, hc⟩ := ho
    refine SideLaw.aside ?_ hstores
    exact (portsOnly_afterTaking ..).sideLaw ((work_of_service _ hi hc).sideLaw ((portsOnly_beginTaking ..).sideLaw (h.sideLaw hs)))
  | event u hs hu =>
    exact ((portsOnly_placeNotice u).sideLaw (hu.sideLaw (h.sideLaw hs))).aside
      ((portsOnly_placeNotice u).keepsStores.storesLawful (hu.storesLawful h.stores))
  | pinReset =>
    have hreset := aside_of_lawful lawsHoldAtReset
    exact ⟨hreset.tickets, hreset.grantWindows, h.stores, fun _ => rfl⟩
  | deasserted => exact ⟨h.tickets, h.grantWindows, h.stores, fun hs => by cases hs⟩

/-- A step keeps the laws of pool, slots, queues and channels. -/
theorem step_core (h : Core none s) (hparams : s.paramsLawful) (hreset : s.resetLawful) (hstep : step s = .next t) :
    Core none t := by
  rcases step_cases hstep with ⟨-, rfl⟩ | ⟨i, rest, -, ha⟩
  · rcases idleStep_or s with hs | ⟨-, hs⟩
    · rwa [hs]
    · rw [hs]; exact h.elapse 1
  · exact ha.core (h.of_same ⟨rfl, rfl, rfl, rfl, rfl, rfl, rfl⟩) hparams
      fun hs => congrArg (fun u : State => { u with pending := rest }) (hreset hs)

/-- A step keeps the laws of tickets, grant windows, stores and pin reset. -/
theorem step_aside (h : Aside s) (hstep : step s = .next t) : Aside t := by
  rcases step_cases hstep with ⟨-, rfl⟩ | ⟨i, rest, -, ha⟩
  · rcases idleStep_or s with hs | ⟨hs, he⟩
    · rwa [hs]
    · rw [he]; exact ((h.sideLaw hs).elapse 1).aside h.stores
  · exact ha.aside (h.setPending rest)

end Step

/-- Settles O56: the laws of ports, log and tables are those of O53 to O55, and the rest are kept by every service and every other
event, which `Core` and `Aside` carry. -/
theorem everyStepKeepsEveryLaw : Obligations.EveryStepKeepsEveryLaw := by
  intro s t h hstep
  have haside := aside_of_lawful h
  have hcore := core_of_lawful h
  obtain ⟨hports, hframes, hlog, hnotice, hmanagers, hparams, hwindows, hgrants, -⟩ := h
  have hports' : PortsLaw t := (portsLaw_iff t).mp (everyStepKeepsThePortLaws s t hports hframes hstep)
  have hlog' := everyStepKeepsTheLogLaws s t hlog hnotice haside.reset hstep
  have htables' : TablesLaw t := everyStepKeepsTheTables s t hmanagers hparams hwindows hgrants hstep
  exact lawful_of_parts hports' hlog' htables' (step_core hcore hparams haside.reset hstep) (step_aside haside hstep)

end Sys2Proof.Machine
